-- ==== Sys2Proof/Word.lean ====
section
/-! DEFINITION. Bits, bytes, payloads and bit sequences (00_scope.md section 5). Nothing in this block is
signed and nothing is wider than a byte (R53, R95). -/

namespace Sys2Proof

/-- A bit: `false` is 0, the low level; `true` is 1, the high level. The level is the bit, with no inversion. -/
abbrev Bit := Bool

/-- An unsigned 8-bit value. -/
abbrev Byte := BitVec 8

/-- A finite list of bytes, byte 0 first. -/
abbrev Payload := List Byte

/-- A finite list of bits in wire order, the first bit in time first. -/
abbrev BitSeq := List Bit

end Sys2Proof
end

