-- ==== Sys2Proof/Config.lean ====
section
/-! DEFINITION. The parameters of the machine (00_scope.md R7 to R13) and the values the spec leaves free. -/

namespace Sys2Proof

/-- The configuration record of 00_scope.md section 4: "none of them changes while the machine runs". -/
structure Config where
  /-- `MAX_BUFFER_BITS` (R7), the capacity of the raw bit buffer. -/
  maxBufferBits : Nat
  /-- `BUS_FREE_TIMEOUT_POLLS` (R8), the number of busy polls after which a host send gives up. -/
  busFreeTimeoutPolls : Nat
  /-- `RETAIN_ON_SEND` (R12), whether a completed host send writes `LAST`. -/
  retainOnSend : Bool
  /-- `BIT_PERIOD` (R9), a duration. No transition reads it. -/
  bitPeriod : Nat
  /-- `CS_SETTLE` (R10), a duration. No transition reads it. -/
  csSettle : Nat
  /-- `POLL_INTERVAL` (R11), a duration. No transition reads it. -/
  pollInterval : Nat
deriving DecidableEq, Repr

/-- The ranges of the parameter table: what a configuration must satisfy (R7, R8, R9, R11). -/
abbrev Config.Valid (c : Config) : Prop :=
  1 ≤ c.maxBufferBits ∧ 1 ≤ c.busFreeTimeoutPolls ∧ 1 ≤ c.bitPeriod ∧ 1 ≤ c.pollInterval

/-- The open part of `BUS_FREE_TIMEOUT_POLLS` (R8 gives no default): no proof can see its value. -/
opaque Config.openTimeout : Nat

/-- The open part of `BIT_PERIOD` (R9 gives no value). -/
opaque Config.openBitPeriod : Nat

/-- The open value of `CS_SETTLE` (R10 gives no value). -/
opaque Config.openCsSettle : Nat

/-- The open part of `POLL_INTERVAL` (R11 gives no value). -/
opaque Config.openPollInterval : Nat

/-- The configuration of `State.reset`: the spec's defaults where it gives one (256 bits, `RETAIN_ON_SEND`
true), open values where it gives none. DESIGN CHOICE, assumption 4. -/
def Config.reset : Config where
  maxBufferBits := 256
  busFreeTimeoutPolls := Config.openTimeout + 1
  retainOnSend := true
  bitPeriod := Config.openBitPeriod + 1
  csSettle := Config.openCsSettle
  pollInterval := Config.openPollInterval + 1

/-- The level of a line that two endpoints drive to different levels: a fresh free value for every
evaluation (R57, U3). No body, so nothing can depend on it. Assumption 16. -/
opaque Config.freeLevel : Nat → Bit

/-- Which of the six orders the pin steps of one change of several lines take (R57, U4). Assumption 16. -/
opaque Config.freeOrder : Nat → Fin 6

/-- `SENTINEL` (R13): the five bytes of `"ERROR"`, given as a literal byte list. PRESUMED (G1: the ASCII
code points are general knowledge), assumption 18. -/
def sentinel : Payload := [0x45, 0x52, 0x52, 0x4F, 0x52]

/-- The largest payload one length byte can announce (R71). -/
def maxPayload : Nat := 255

end Sys2Proof
end

