-- ==== Sys2Proof/Syntax.lean ====
section
/-! DEFINITION. The operations of the block, one constructor of `Instr` for each row of spec/opcode_table.json,
and the words that select them (30_encoding.md). An instruction of this block is an operation (00_scope.md
section 3). -/

namespace Sys2Proof

/-- The three shared lines (R23). The codes of the pin selector are in `Line.code` (Decode.lean). -/
inductive Line where
  | cs
  | clk
  | data
deriving DecidableEq, Repr

/-- One operation: a row of spec/opcode_table.json with its operands. `EV_STEADY` and `FD_ERROR_REPLY` have two
rows each, hence two constructors each (assumption 15). -/
inductive Instr where
  /-- `HOST_INIT(cs0, clk0, data0)`, R130. -/
  | hostInit (cs0 clk0 data0 : Bit)
  /-- `HOST_SEND(p)`, R100. -/
  | hostSend (p : Payload)
  /-- `TX_POLL`, R101. -/
  | txPoll
  /-- `TX_CS_ASSERT`, R103. -/
  | txCsAssert
  /-- `TX_DATA`, R104. -/
  | txData
  /-- `TX_CLK_HIGH`, R105. -/
  | txClkHigh
  /-- `TX_CLK_LOW`, R106. -/
  | txClkLow
  /-- `TX_CS_DEASSERT`, R107. -/
  | txCsDeassert
  /-- `TX_RELEASE`, R108. -/
  | txRelease
  /-- `TICK_NONE`, R110: the selector value with which no `TICK` step is enabled. -/
  | tickNone
  /-- `EV_CS_RISE`, R121. -/
  | evCsRise
  /-- `EV_CS_FALL`, R123. -/
  | evCsFall
  /-- `EV_CLK_RISE` with CS active, R122. -/
  | evClkRise
  /-- `EV_CLK_RISE_IDLE`, R122 with CS inactive. -/
  | evClkRiseIdle
  /-- `EV_CLK_FALL`, R124. -/
  | evClkFall
  /-- `EV_DATA`, R125, with the new level. -/
  | evData (v : Bit)
  /-- `EV_MASKED`, R120, with the line (CS or Clock) and the new level. -/
  | evMasked (l : Line) (v : Bit)
  /-- `EV_STEADY` at level 0, R120, with the line (CS or Clock). -/
  | evSteadyLow (l : Line)
  /-- `EV_STEADY` at level 1, R120, with the line (CS or Clock). -/
  | evSteadyHigh (l : Line)
  /-- `FD_EMPTY`, R133. -/
  | fdEmpty
  /-- `FD_ERROR_REPLY` after an incomplete frame, R134. -/
  | fdErrorReplyIncomplete
  /-- `FD_ERROR_REPLY` after a checksum mismatch, R134. -/
  | fdErrorReplyMismatch
  /-- `FD_DELIVER(p)`, R135. -/
  | fdDeliver (p : Payload)
  /-- `FD_RESEND`, R136. -/
  | fdResend
  /-- `FD_RESEND_NONE`, R137. -/
  | fdResendNone
  /-- `CHECKSUM(p)`, R90. -/
  | checksum (p : Payload)
  /-- `ENCODE(p)`, R91. -/
  | encode (p : Payload)
  /-- `DECODE(b)`, R92. -/
  | decode (b : BitSeq)
  /-- `FRAME_EMPTY`, R75: the frame of the empty payload. -/
  | frameEmpty
  /-- `FRAME_SENTINEL`, R76: the frame of the payload `"ERROR"`. -/
  | frameSentinel
deriving DecidableEq, Repr

/-- The column `format` of spec/opcode_table.json: which selector vector a word is. -/
inductive Format where
  /-- The one-bit selector `cmd` (R80). -/
  | host
  /-- The five-bit selector `T` (R78). -/
  | tick
  /-- The six-bit selector `S` (R77). -/
  | pin
  /-- The five-bit selector `Q` (R79). -/
  | fd
  /-- The two-bit selector `fn` (R84). -/
  | func
  /-- A whole frame (R71, R75, R76). -/
  | frame
deriving DecidableEq, Repr

/-- The operands a word carries beside its selector (the table's `operands`). -/
inductive Operand where
  | none
  /-- The three line levels of `HOST_INIT`. -/
  | levels (cs clk data : Bit)
  /-- A payload. -/
  | payload (p : Payload)
  /-- A bit sequence. -/
  | bits (b : BitSeq)
deriving DecidableEq, Repr

/-- An operation word: a selector of a format, `width` bits read as one number with bit 0 the table's bit 0,
and its operands. A selector means nothing without its format: the six selectors overlap (assumption 12). -/
structure OpWord where
  format : Format
  width : Nat
  value : Nat
  operand : Operand
deriving DecidableEq, Repr

end Sys2Proof
end

