-- ==== Sys2Proof/WellFormed.lean ====
section
/-! DEFINITION. Which operations are well formed: the operand ranges of spec/opcode_table.json and of the rules. -/

namespace Sys2Proof

/-- `EV_MASKED` and `EV_STEADY` are CS or Clock steps; a Data step is always `EV_DATA` (R77). -/
def Line.hasHandler : Line → Bool
  | .cs => true
  | .clk => true
  | .data => false

/-- A payload one frame can carry (R71: `0 <= L <= 255`). -/
def fitsFrame (p : Payload) : Bool := decide (p.length ≤ maxPayload)

/-- The operand checks of an operation. `HOST_SEND` takes any payload: over 255 bytes it raises
`PayloadTooLong` (R100), which is its meaning and no ill-formedness. `ENCODE` has the precondition of R91.
`FD_DELIVER` takes a payload that a valid frame can hold and that is not the sentinel (R79, `1110-`). -/
def Instr.wf : Instr → Bool
  | .hostInit _ _ _ => true
  | .hostSend _ => true
  | .txPoll => true
  | .txCsAssert => true
  | .txData => true
  | .txClkHigh => true
  | .txClkLow => true
  | .txCsDeassert => true
  | .txRelease => true
  | .tickNone => true
  | .evCsRise => true
  | .evCsFall => true
  | .evClkRise => true
  | .evClkRiseIdle => true
  | .evClkFall => true
  | .evData _ => true
  | .evMasked l _ => l.hasHandler
  | .evSteadyLow l => l.hasHandler
  | .evSteadyHigh l => l.hasHandler
  | .fdEmpty => true
  | .fdErrorReplyIncomplete => true
  | .fdErrorReplyMismatch => true
  | .fdDeliver p => fitsFrame p && p != sentinel
  | .fdResend => true
  | .fdResendNone => true
  | .checksum _ => true
  | .encode p => fitsFrame p
  | .decode _ => true
  | .frameEmpty => true
  | .frameSentinel => true

end Sys2Proof
end

