-- ==== Sys2Proof/Decode.lean ====
section
/-! DEFINITION. The decoder of operation words, written from spec/opcode_table.json, and the encoder beside it.
The decoder is total: a word that no row of its format matches is rejected by a name that says why. -/

namespace Sys2Proof

/-- The `line` field of the pin selector (R77): 00 CS, 01 Clock, 10 Data. -/
def Line.code : Line → Nat
  | .cs => 0
  | .clk => 1
  | .data => 2

/-- The line a two-bit code names; 11 does not exist (R77). -/
def Line.ofCode : Nat → Option Line
  | 0 => some .cs
  | 1 => some .clk
  | 2 => some .data
  | _ => none

/-- The rows of spec/opcode_table.json, by name. -/
inductive Op where
  | hostInit | hostSend
  | txPoll | txCsAssert | txData | txClkHigh | txClkLow | txCsDeassert | txRelease | tickNone
  | evCsRise | evCsFall | evClkRise | evClkRiseIdle | evClkFall | evData | evMasked | evSteadyLow | evSteadyHigh
  | fdEmpty | fdErrorReplyIncomplete | fdErrorReplyMismatch | fdDeliver | fdResend | fdResendNone
  | checksum | encode | decode
  | frameEmpty | frameSentinel
deriving DecidableEq, Repr

/-- One row of spec/opcode_table.json: `mask` has a 1 for every fixed bit, `fixed` is the table's `match`. -/
structure Row where
  op : Op
  format : Format
  width : Nat
  fixed : Nat
  mask : Nat
deriving DecidableEq, Repr

/-- Rows of the formats HOST and TICK, in the table's order (R78, R80). -/
def hostTickRows : List Row :=
  [ ⟨.hostInit, .host, 1, 0b0, 0b1⟩,
    ⟨.hostSend, .host, 1, 0b1, 0b1⟩,
    ⟨.txPoll, .tick, 5, 0b01000, 0b11111⟩,
    ⟨.txCsAssert, .tick, 5, 0b10001, 0b10111⟩,
    ⟨.txData, .tick, 5, 0b10010, 0b10111⟩,
    ⟨.txClkHigh, .tick, 5, 0b10011, 0b10111⟩,
    ⟨.txClkLow, .tick, 5, 0b10100, 0b10111⟩,
    ⟨.txCsDeassert, .tick, 5, 0b10101, 0b10111⟩,
    ⟨.txRelease, .tick, 5, 0b10110, 0b10111⟩,
    ⟨.tickNone, .tick, 5, 0b00000, 0b11111⟩ ]

/-- Rows of the format PIN, in the table's order (R77). -/
def pinRows : List Row :=
  [ ⟨.evCsRise, .pin, 6, 0b001001, 0b111111⟩,
    ⟨.evCsFall, .pin, 6, 0b001110, 0b111111⟩,
    ⟨.evClkRise, .pin, 6, 0b011101, 0b111111⟩,
    ⟨.evClkRiseIdle, .pin, 6, 0b011001, 0b111111⟩,
    ⟨.evClkFall, .pin, 6, 0b011010, 0b111011⟩,
    ⟨.evData, .pin, 6, 0b100000, 0b110000⟩,
    ⟨.evMasked, .pin, 6, 0b000000, 0b101000⟩,
    ⟨.evSteadyLow, .pin, 6, 0b001000, 0b101011⟩,
    ⟨.evSteadyHigh, .pin, 6, 0b001011, 0b101011⟩ ]

/-- Rows of the formats FD and FUNC, in the table's order (R79, R84). -/
def fdFuncRows : List Row :=
  [ ⟨.fdEmpty, .fd, 5, 0b00000, 0b10000⟩,
    ⟨.fdErrorReplyIncomplete, .fd, 5, 0b10000, 0b11000⟩,
    ⟨.fdErrorReplyMismatch, .fd, 5, 0b11000, 0b11100⟩,
    ⟨.fdDeliver, .fd, 5, 0b11100, 0b11110⟩,
    ⟨.fdResend, .fd, 5, 0b11111, 0b11111⟩,
    ⟨.fdResendNone, .fd, 5, 0b11110, 0b11111⟩,
    ⟨.checksum, .func, 2, 0b00, 0b11⟩,
    ⟨.encode, .func, 2, 0b01, 0b11⟩,
    ⟨.decode, .func, 2, 0b10, 0b11⟩ ]

/-- Rows of the format FRAME: the two fixed frames, first wire bit most significant (R75, R76). -/
def frameRows : List Row :=
  [ ⟨.frameEmpty, .frame, 16, 0b0000000000000000, 0xFFFF⟩,
    ⟨.frameSentinel, .frame, 56, 0b00000101010001010101001001010010010011110101001010001010,
      0xFFFFFFFFFFFFFF⟩ ]

/-- The whole operation table, in its order. -/
def tableRows : List Row := hostTickRows ++ pinRows ++ fdFuncRows ++ frameRows

/-- A row matches a selector of its format and width whose fixed bits are the row's. -/
def Row.matchesWord (r : Row) (f : Format) (width value : Nat) : Bool :=
  r.format == f && r.width == width && decide (value < 2 ^ width) && (value &&& r.mask) == r.fixed

/-- The row a selector selects. -/
def findRow (f : Format) (width value : Nat) : Option Row :=
  tableRows.find? (·.matchesWord f width value)

/-- Why a word is rejected. -/
inductive DecodeReject where
  /-- The word's width is not that of its format. -/
  | wrongWidth
  /-- The number has bits above its width. -/
  | valueTooLarge
  /-- Pin selector with `line = 11`, which does not exist (R77). -/
  | noSuchLine
  /-- Pin selector of CS whose `CS_IN` and `prev` differ: they are one register (R77). -/
  | pinVectorImpossible
  /-- `TICK` selector that no reachable state has (R78, R36 (a)). -/
  | tickVectorUnreachable
  /-- The unused function selector 11 (R84). -/
  | functionUnused
  /-- A frame other than the two the table lists (R84). -/
  | frameNotListed
  /-- A selector of a format all of whose vectors have a row: never answered. -/
  | noRow
  /-- A direct call of an operation that only a step of its own selects (R84). -/
  | notCallable
  /-- The word's operand is not of the shape the row takes. -/
  | wrongOperand
  /-- The operation is ill formed (`Instr.wf`). -/
  | illFormed
deriving DecidableEq, Repr

/-- The name under which a word that no row matches is rejected. -/
def rejectName (w : OpWord) : DecodeReject :=
  if !(tableRows.any fun r => r.format == w.format && r.width == w.width) then .wrongWidth
  else if 2 ^ w.width ≤ w.value then .valueTooLarge
  else match w.format with
    | .host => .noRow
    | .tick => .tickVectorUnreachable
    | .pin => if 0b110000 ≤ w.value then .noSuchLine else .pinVectorImpossible
    | .fd => .noRow
    | .func => .functionUnused
    | .frame => .frameNotListed

/-- The bits of a pin selector that are operands: the line (bits 5:4) and the new level (bit 0). -/
def pinLine (value : Nat) : Option Line := Line.ofCode (value / 16 % 4)

/-- The argument `v` of the pin step, bit 0 of its selector. -/
def pinNew (value : Nat) : Bit := value.testBit 0

/-- The operation a row stands for, with the operands of the word; none where the operand has another shape. -/
def build (op : Op) (value : Nat) (operand : Operand) : Option Instr :=
  match op, operand with
  | .hostInit, .levels c k d => some (.hostInit c k d)
  | .hostSend, .payload p => some (.hostSend p)
  | .txPoll, .none => some .txPoll
  | .txCsAssert, .none => some .txCsAssert
  | .txData, .none => some .txData
  | .txClkHigh, .none => some .txClkHigh
  | .txClkLow, .none => some .txClkLow
  | .txCsDeassert, .none => some .txCsDeassert
  | .txRelease, .none => some .txRelease
  | .tickNone, .none => some .tickNone
  | .evCsRise, .none => some .evCsRise
  | .evCsFall, .none => some .evCsFall
  | .evClkRise, .none => some .evClkRise
  | .evClkRiseIdle, .none => some .evClkRiseIdle
  | .evClkFall, .none => some .evClkFall
  | .evData, .none => some (.evData (pinNew value))
  | .evMasked, .none => (pinLine value).map fun l => .evMasked l (pinNew value)
  | .evSteadyLow, .none => (pinLine value).map .evSteadyLow
  | .evSteadyHigh, .none => (pinLine value).map .evSteadyHigh
  | .fdEmpty, .none => some .fdEmpty
  | .fdErrorReplyIncomplete, .none => some .fdErrorReplyIncomplete
  | .fdErrorReplyMismatch, .none => some .fdErrorReplyMismatch
  | .fdDeliver, .payload p => some (.fdDeliver p)
  | .fdResend, .none => some .fdResend
  | .fdResendNone, .none => some .fdResendNone
  | .checksum, .payload p => some (.checksum p)
  | .encode, .payload p => some (.encode p)
  | .decode, .bits b => some (.decode b)
  | .frameEmpty, .none => some .frameEmpty
  | .frameSentinel, .none => some .frameSentinel
  | _, _ => none

/-- The operation a word selects, or the name under which it is rejected. -/
def decode (w : OpWord) : Except DecodeReject Instr :=
  match findRow w.format w.width w.value with
  | none => .error (rejectName w)
  | some r =>
    match build r.op w.value w.operand with
    | none => .error .wrongOperand
    | some i => if i.wf then .ok i else .error .illFormed

/-- The row of an operation. -/
def Instr.op : Instr → Op
  | .hostInit _ _ _ => .hostInit
  | .hostSend _ => .hostSend
  | .txPoll => .txPoll
  | .txCsAssert => .txCsAssert
  | .txData => .txData
  | .txClkHigh => .txClkHigh
  | .txClkLow => .txClkLow
  | .txCsDeassert => .txCsDeassert
  | .txRelease => .txRelease
  | .tickNone => .tickNone
  | .evCsRise => .evCsRise
  | .evCsFall => .evCsFall
  | .evClkRise => .evClkRise
  | .evClkRiseIdle => .evClkRiseIdle
  | .evClkFall => .evClkFall
  | .evData _ => .evData
  | .evMasked _ _ => .evMasked
  | .evSteadyLow _ => .evSteadyLow
  | .evSteadyHigh _ => .evSteadyHigh
  | .fdEmpty => .fdEmpty
  | .fdErrorReplyIncomplete => .fdErrorReplyIncomplete
  | .fdErrorReplyMismatch => .fdErrorReplyMismatch
  | .fdDeliver _ => .fdDeliver
  | .fdResend => .fdResend
  | .fdResendNone => .fdResendNone
  | .checksum _ => .checksum
  | .encode _ => .encode
  | .decode _ => .decode
  | .frameEmpty => .frameEmpty
  | .frameSentinel => .frameSentinel

/-- The `line` field in its place in the pin selector (bits 5:4). -/
def Line.field (l : Line) : Nat := l.code * 16

/-- The word of an operation: the row's fixed bits, its operand bits in their places, every free bit 0, but for
one: a steady CS step at level 1 has `CS_IN = prev = 1`, since the two are one register (R77). -/
def encode : Instr → OpWord
  | .hostInit c k d => ⟨.host, 1, 0b0, .levels c k d⟩
  | .hostSend p => ⟨.host, 1, 0b1, .payload p⟩
  | .txPoll => ⟨.tick, 5, 0b01000, .none⟩
  | .txCsAssert => ⟨.tick, 5, 0b10001, .none⟩
  | .txData => ⟨.tick, 5, 0b10010, .none⟩
  | .txClkHigh => ⟨.tick, 5, 0b10011, .none⟩
  | .txClkLow => ⟨.tick, 5, 0b10100, .none⟩
  | .txCsDeassert => ⟨.tick, 5, 0b10101, .none⟩
  | .txRelease => ⟨.tick, 5, 0b10110, .none⟩
  | .tickNone => ⟨.tick, 5, 0b00000, .none⟩
  | .evCsRise => ⟨.pin, 6, 0b001001, .none⟩
  | .evCsFall => ⟨.pin, 6, 0b001110, .none⟩
  | .evClkRise => ⟨.pin, 6, 0b011101, .none⟩
  | .evClkRiseIdle => ⟨.pin, 6, 0b011001, .none⟩
  | .evClkFall => ⟨.pin, 6, 0b011010, .none⟩
  | .evData v => ⟨.pin, 6, 0b100000 + v.toNat, .none⟩
  | .evMasked l v => ⟨.pin, 6, l.field + v.toNat, .none⟩
  | .evSteadyLow l => ⟨.pin, 6, 0b001000 + l.field, .none⟩
  | .evSteadyHigh l => ⟨.pin, 6, 0b001011 + l.field + (if l = .cs then 0b000100 else 0), .none⟩
  | .fdEmpty => ⟨.fd, 5, 0b00000, .none⟩
  | .fdErrorReplyIncomplete => ⟨.fd, 5, 0b10000, .none⟩
  | .fdErrorReplyMismatch => ⟨.fd, 5, 0b11000, .none⟩
  | .fdDeliver p => ⟨.fd, 5, 0b11100, .payload p⟩
  | .fdResend => ⟨.fd, 5, 0b11111, .none⟩
  | .fdResendNone => ⟨.fd, 5, 0b11110, .none⟩
  | .checksum p => ⟨.func, 2, 0b00, .payload p⟩
  | .encode p => ⟨.func, 2, 0b01, .payload p⟩
  | .decode b => ⟨.func, 2, 0b10, .bits b⟩
  | .frameEmpty => ⟨.frame, 16, 0, .none⟩
  | .frameSentinel => ⟨.frame, 56, 0x05455252_4F528A, .none⟩

/-- The operand of a row whose operand words are zeros: levels 0, the empty payload, no bits. -/
def Op.zeroOperand : Op → Operand
  | .hostInit => .levels false false false
  | .hostSend | .fdDeliver | .checksum | .encode => .payload []
  | .decode => .bits []
  | _ => .none

/-- A row's width in whole bytes, counted in bits. -/
def Row.roundedWidth (r : Row) : Nat := (r.width + 7) / 8 * 8

/-- The row a bare table word is read as. A selector without its format can match rows of several formats;
the row whose free bits are 0 in this very word is taken first, then any row that matches, each in the
table's order. DESIGN CHOICE, assumption 12: no step uses this function, since a step knows the format. -/
def bareRow (nbits w : Nat) : Option Row :=
  let rows := tableRows.filter fun r => r.roundedWidth == nbits && r.matchesWord r.format r.width w
  (rows.find? fun r => r.fixed == w).or rows.head?

/-- The word a bare table word stands for: the format of `bareRow`, operands of zeros. -/
def bareWord (nbits w : Nat) : Option OpWord :=
  (bareRow nbits w).map fun r => ⟨r.format, r.width, w, r.op.zeroOperand⟩

/-- The operation the decoder reads from a bare table word. -/
def decodeTableWord (nbits w : Nat) : Option Instr :=
  match bareWord nbits w with
  | none => none
  | some word =>
    match decode word with
    | .ok i => some i
    | .error _ => none

end Sys2Proof
end

