-- ==== Sys2Proof/Machine/State.lean ====
section
/-! DEFINITION. The state of one framer as plain data (10_state.md), the reasons a step can stop, and the state
after reset. -/

namespace Sys2Proof.Machine

/-- `ROLE` (R25): which side drives the lines. The two states of the Link State Machine (R131). -/
inductive Role where
  | receiving
  | sending
deriving DecidableEq, Repr

/-- `TXPH` (R33): the micro-step the next `TICK` performs. The code 7 has no constructor (U7). -/
inductive Phase where
  | idle
  | csAssert
  | data
  | clkHigh
  | clkLow
  | csDeassert
  | release
deriving DecidableEq, Repr

/-- `TXSRC` (R33): which kind of send owns the frame in flight. -/
inductive Source where
  | host
  | internal
deriving DecidableEq, Repr

/-- `HOST_REQ` (R32): the host send that has been accepted and not yet answered. -/
structure HostReq where
  valid : Bit
  p : Payload
deriving DecidableEq, Repr

/-- The values of `SEND_RESULT` (R35, R155). -/
inductive SendResult where
  | ok
  | payloadTooLong
  | busBusyTimeout
deriving DecidableEq, Repr

/-- The error results of `DECODE` (R153, R155). -/
inductive DecodeError where
  | incompleteFrame
deriving DecidableEq, Repr

/-- The four error conditions of the block (R150); the last two never reach the host. -/
inductive ErrorCondition where
  | payloadTooLong
  | incompleteFrame
  | checksumMismatch
  | busBusyTimeout
deriving DecidableEq, Repr

/-- A decoded message (R34): exists inside one step only. -/
structure Message where
  length : Nat
  payload : Payload
  checksum : Byte
  valid : Bool
deriving DecidableEq, Repr

/-- The output events (R35). -/
inductive Event where
  /-- `SEND_RESULT(r)`. -/
  | sendResult (r : SendResult)
  /-- `ON_MESSAGE(p)`. -/
  | onMessage (p : Payload)
deriving DecidableEq, Repr

/-- What a direct call of a codec function returned: the model's own port (assumption 6). -/
inductive FnResult where
  | none
  /-- The byte of `CHECKSUM`. -/
  | checksum (c : Byte)
  /-- The bit sequence of `ENCODE`. -/
  | frame (s : BitSeq)
  /-- The error of `ENCODE` for a payload over 255 bytes (R91: "make it return an error"). -/
  | tooLong
  /-- The message of `DECODE`. -/
  | message (m : Message)
  /-- The error of `DECODE`. -/
  | decodeError (e : DecodeError)
deriving DecidableEq, Repr

/-- The step alphabet of one framer (R20), and a direct call of an operation word, which the model adds for the
codec functions (R84: "never selected by a step"; assumption 6). One line per pin step (R22). -/
inductive Input where
  /-- `HOST_INIT(cs0, clk0, data0)`. -/
  | hostInit (cs0 clk0 data0 : Bit)
  /-- `HOST_SEND(p)`. -/
  | hostSend (p : Payload)
  /-- `PIN_CS(v)`, `PIN_CLK(v)`, `PIN_DATA(v)`. -/
  | pin (l : Line) (v : Bit)
  /-- `TICK`. -/
  | tick
  /-- A call of a codec function. -/
  | call (w : OpWord)
deriving DecidableEq, Repr

/-- One framer. The fields from `initDone` to `txsrc` are the registers of R24 to R33 under the spec's names;
`cfg` is the configuration, which no step writes (assumption 4); `inputs`, `events` and `fnResult` are the
model's own (assumptions 3, 5, 6). -/
structure State where
  /-- `INIT_DONE` (R24). -/
  initDone : Bit
  /-- `ROLE` (R25). -/
  role : Role
  /-- `IRQ_EN` (R26). -/
  irqEn : Bit
  /-- `OE` (R27). -/
  oe : Bit
  /-- `CLK_OUT` (R28). -/
  clkOut : Bit
  /-- `DATA_OUT` (R28). -/
  dataOut : Bit
  /-- `CS_OUT` (R28). -/
  csOut : Bit
  /-- `CS_IN` (R29). -/
  csIn : Bit
  /-- `CLK_IN` (R29). -/
  clkIn : Bit
  /-- `DATA_IN` (R29). -/
  dataIn : Bit
  /-- `RXBUF` (R30); its length is `RXCNT`. -/
  rxbuf : BitSeq
  /-- `LAST` (R31); its length is `LAST_LEN`. -/
  last : Payload
  /-- `LAST_VALID` (R31). -/
  lastValid : Bit
  /-- `HOST_REQ` (R32). -/
  hostReq : HostReq
  /-- `HOST_POLLS` (R32). -/
  hostPolls : Nat
  /-- `TXPH` (R33). -/
  txph : Phase
  /-- `TXSEQ` (R33). -/
  txseq : BitSeq
  /-- `TXIDX` (R33). -/
  txidx : Nat
  /-- `TXSRC` (R33). -/
  txsrc : Source
  /-- The parameters of the machine (R7 to R12). -/
  cfg : Config
  /-- The steps the agents take next, oldest first. The model's own. -/
  inputs : List Input
  /-- The output events emitted so far, oldest first. The model's own. -/
  events : List Event
  /-- The function result port. The model's own. -/
  fnResult : FnResult
deriving DecidableEq, Repr

/-- The reasons a step stops with a fault. No state that a run from `HOST_INIT` reaches raises one: they guard
preconditions that the spec says every caller meets. Safe: the spec gives no effect there. Assumption 13. -/
inductive Fault where
  /-- Raised where a frame of a payload over 255 bytes would have to be encoded for sending (`TX_POLL`,
  `FD_RESEND`): R91 demands `len(p) <= 255` of every caller and forbids truncation. -/
  | encodeTooLong
  /-- Raised by `TX_DATA` when `TXIDX` is past the end of `TXSEQ`, against R104's invariant on entry. -/
  | txIndexPastEnd
deriving DecidableEq, Repr

/-- The reasons a step is refused. All are safe: the spec has no such step (00_scope.md section 6, "enabled
when"). Assumption 8. -/
inductive Refusal where
  /-- Raised by exec's arm of an instruction that has no meaning yet. -/
  | notModelled (mnemonic : String)
  /-- Raised by every operation but `HOST_INIT` and the pure functions, the pin steps among them, while `INIT_DONE = 0`:
  "no step but HOST_INIT is enabled" (R181, U1 `stuck`). -/
  | notInitialised
  /-- Raised by an operation in a state where its enabling condition is false, a second `HOST_INIT` and a
  `HOST_SEND` while one is outstanding among them (U6 `refuse`). -/
  | notEnabled
  /-- Raised by `TICK_NONE`: with the selector `00000` "no `TICK` step exists" (R110, R78). Assumption 7. -/
  | noTickStep
  /-- Raised by a step whose selector vector matches no row: a vector that cannot occur (R77, R78) or an
  undecodable call. -/
  | noOperation (r : DecodeReject)
deriving DecidableEq, Repr

/-- What an operation answers. -/
abbrev Res := Host.Outcome State Fault Refusal

/-- `RXCNT` (R30). -/
abbrev State.rxcnt (s : State) : Nat := s.rxbuf.length

/-- `LAST_LEN` (R31). -/
abbrev State.lastLen (s : State) : Nat := s.last.length

/-- The state after `HOST_INIT(cs0, clk0, data0)` under a configuration (R37). `LAST` and `HOST_REQ.p`, which R37
leaves unspecified, are empty: DESIGN CHOICE, assumption 2. -/
def State.resetWith (c : Config) (cs0 clk0 data0 : Bit) : State where
  initDone := true
  role := .receiving
  irqEn := true
  oe := false
  clkOut := false
  dataOut := false
  csOut := false
  csIn := cs0
  clkIn := clk0
  dataIn := data0
  rxbuf := []
  last := []
  lastValid := false
  hostReq := ⟨false, []⟩
  hostPolls := 0
  txph := .idle
  txseq := []
  txidx := 0
  txsrc := .host
  cfg := c
  inputs := []
  events := []
  fnResult := .none

/-- The machine right after reset: the "reset state" of 95_test_vectors.md, `HOST_INIT(0, 0, 0)` (R37, R180).
DESIGN CHOICE of the three levels, assumption 1. -/
def State.reset : State := State.resetWith Config.reset false false false

/-- The uninitialised machine (R24, R181): `INIT_DONE = 0`, every other register without a defined value. The
values written here are read by no step; assumption 2. -/
def State.powerOn (c : Config) : State := { State.resetWith c false false false with initDone := false, irqEn := false }

end Sys2Proof.Machine
end

