-- ==== Sys2Proof/Machine/Operands.lean ====
section
/-! DEFINITION. The operand forms: byte fields and bit slices (00_scope.md section 5), the three lines' tracked
and driven levels (R23, R29). -/

namespace Sys2Proof.Machine

/-- `msb8(v)`: the eight bits of a byte, the most significant first (R53). -/
def msb8 (v : Byte) : BitSeq :=
  [v.getLsbD 7, v.getLsbD 6, v.getLsbD 5, v.getLsbD 4, v.getLsbD 3, v.getLsbD 2, v.getLsbD 1, v.getLsbD 0]

/-- The number a bit sequence spells, its first bit the most significant. -/
def bitsToNat (s : BitSeq) : Nat := s.foldl (fun n b => 2 * n + b.toNat) 0

/-- `val8(s)`: the byte whose bits are the sequence, the first the most significant (R73). -/
def val8 (s : BitSeq) : Byte := BitVec.ofNat 8 (bitsToNat s)

/-- `s[i ..+ n]`: the `n` elements from index `i` on. -/
def slice (s : BitSeq) (i n : Nat) : BitSeq := (s.drop i).take n

/-- The byte field that starts at bit `i` (R52, R73). -/
def byteAt (s : BitSeq) (i : Nat) : Byte := val8 (slice s i 8)

/-- The tracked level of a line: `CS_IN`, `CLK_IN` or `DATA_IN` (R29). Reading has no side effect (R56). -/
def State.level (s : State) : Line → Bit
  | .cs => s.csIn
  | .clk => s.clkIn
  | .data => s.dataIn

/-- `X_IN <- v` (R120). -/
def State.setLevel (s : State) (l : Line) (v : Bit) : State :=
  match l with
  | .cs => { s with csIn := v }
  | .clk => { s with clkIn := v }
  | .data => { s with dataIn := v }

/-- The output register of a line: `CS_OUT`, `CLK_OUT` or `DATA_OUT` (R28). -/
def State.outLevel (s : State) : Line → Bit
  | .cs => s.csOut
  | .clk => s.clkOut
  | .data => s.dataOut

/-- What the framer drives onto a line: nothing while `OE = 0`, the output register while `OE = 1` (R23, R27), and
nothing before `HOST_INIT` (R181). -/
def State.drive (s : State) (l : Line) : Option Bit := if s.initDone && s.oe then some (s.outLevel l) else none

end Sys2Proof.Machine
end

