-- ==== Sys2Proof/Machine/Codec.lean ====
section
/-! DEFINITION. The Frame Codec (40_codec.md): pure functions that read and write no register, and the meanings of
their three rows, which write what the function returns to the function result port (assumption 6). -/

namespace Sys2Proof.Machine

/-- `CHECKSUM(p)` (R90): the sum of the bytes modulo 256, an 8-bit adder that drops its carry. -/
def checksum (p : Payload) : Byte := p.foldl (fun c b => c + b) 0

/-- The frame of a payload of at most 255 bytes (R71): length byte, payload bytes, checksum byte, MSB first. -/
def frameBits (p : Payload) : BitSeq :=
  msb8 (BitVec.ofNat 8 p.length) ++ p.flatMap msb8 ++ msb8 (checksum p)

/-- `ENCODE(p)` (R91): none for a payload over 255 bytes, which is rejected and never truncated. -/
def frameEncode (p : Payload) : Option BitSeq :=
  if p.length ≤ maxPayload then some (frameBits p) else none

/-- The bits a frame with the length field `L` has (R72). -/
def frameLength (L : Nat) : Nat := 16 + 8 * L

/-- The payload bytes of a frame with the length field `L` (R52, R92). -/
def payloadOf (b : BitSeq) (L : Nat) : Payload := (List.range L).map fun i => byteAt b (8 + 8 * i)

/-- `DECODE(b)` (R92). Bits after the checksum field are ignored. -/
def frameDecode (b : BitSeq) : Except DecodeError Message :=
  if b.length < 8 then .error .incompleteFrame
  else
    let L := (byteAt b 0).toNat
    if b.length < frameLength L then .error .incompleteFrame
    else
      let payload := payloadOf b L
      let c := byteAt b (8 + 8 * L)
      .ok { length := L, payload := payload, checksum := c, valid := c == checksum payload }

/-- The fixed frame of the empty payload (R75). -/
def emptyFrame : BitSeq := msb8 0x00 ++ msb8 0x00

/-- The fixed frame of the payload `"ERROR"` (R76), byte by byte. -/
def sentinelFrame : BitSeq :=
  msb8 0x05 ++ msb8 0x45 ++ msb8 0x52 ++ msb8 0x52 ++ msb8 0x4F ++ msb8 0x52 ++ msb8 0x8A

/-- What a direct call of `ENCODE` returns (R91). -/
def encodeResult (p : Payload) : FnResult :=
  match frameEncode p with
  | some s => .frame s
  | none => .tooLong

/-- What a direct call of `DECODE` returns (R92, R153). -/
def decodeResult (b : BitSeq) : FnResult :=
  match frameDecode b with
  | .ok m => .message m
  | .error e => .decodeError e

/-- `CHECKSUM(p)` (R90): no register is read or written. -/
def execChecksum (p : Payload) (s : State) : Res := .next { s with fnResult := .checksum (checksum p) }

/-- `ENCODE(p)` (R91): no register is read or written. -/
def execEncode (p : Payload) (s : State) : Res := .next { s with fnResult := encodeResult p }

/-- `DECODE(b)` (R92): no register is read or written. -/
def execDecode (b : BitSeq) (s : State) : Res := .next { s with fnResult := decodeResult b }

end Sys2Proof.Machine
end

