-- ==== Sys2Proof/Machine/Flags.lean ====
section
/-! DEFINITION. The conditions: the selector vectors S, T and Q (R77, R78, R79), the conditions under which an
operation is enabled, the classes of a captured buffer (R82). -/

namespace Sys2Proof.Machine

/-- The code of `ROLE` (R25). -/
def Role.code : Role → Nat
  | .receiving => 0
  | .sending => 1

/-- The code of `TXPH` (R33). -/
def Phase.code : Phase → Nat
  | .idle => 0
  | .csAssert => 1
  | .data => 2
  | .clkHigh => 3
  | .clkLow => 4
  | .csDeassert => 5
  | .release => 6

/-- `S = {line[1:0], IRQ_EN, CS_IN, prev, new}` of the step `PIN_l(v)`, from the state before the step (R77). -/
def pinSelector (l : Line) (v : Bit) (s : State) : Nat :=
  l.code * 16 + s.irqEn.toNat * 8 + s.csIn.toNat * 4 + (s.level l).toNat * 2 + v.toNat

/-- `T = {ROLE, HOST_REQ.valid, TXPH[2:0]}` (R78). -/
def tickSelector (s : State) : Nat := s.role.code * 16 + s.hostReq.valid.toNat * 8 + s.txph.code

/-- `complete` (R79): `DECODE(b)` is a frame. -/
def isComplete (b : BitSeq) : Bool :=
  match frameDecode b with
  | .ok _ => true
  | .error _ => false

/-- `valid` (R79): the `valid` flag of the decoded frame; 0 where there is no frame, a place no pattern reads. -/
def isValid (b : BitSeq) : Bool :=
  match frameDecode b with
  | .ok m => m.valid
  | .error _ => false

/-- `is_sentinel` (R79, R138): the decoded payload is the sentinel, byte for byte; 0 where there is no frame. -/
def isSentinel (b : BitSeq) : Bool :=
  match frameDecode b with
  | .ok m => m.payload == sentinel
  | .error _ => false

/-- `Q = {nonempty, complete, valid, is_sentinel, last_valid}` of the buffer handed over (R79). The places whose
value is not defined are read by no pattern; they are 0 here. DESIGN CHOICE, assumption 14. -/
def fdSelector (b : BitSeq) (lastValid : Bit) : Nat :=
  (!b.isEmpty).toNat * 16 + (isComplete b).toNat * 8 + (isValid b).toNat * 4 + (isSentinel b).toNat * 2
    + lastValid.toNat

/-- The condition `ChecksumMismatch` (R154): a non-empty buffer that is no valid frame at frame end. -/
def isMalformed (b : BitSeq) : Bool := !b.isEmpty && !isValid b

/-- A `TICK` step is enabled (R110): after `HOST_INIT`, while a frame is in flight or a host send waits. -/
def State.tickEnabled (s : State) : Bool := s.initDone && (s.role == .sending || s.hostReq.valid)

/-- The micro-step of this phase is the one the next `TICK` performs (R103 to R108). -/
def State.atPhase (s : State) (p : Phase) : Bool := s.role == .sending && s.txph == p

/-- `HOST_REQ` waits for the bus: `TX_POLL` is enabled (R101, selector `01000`). -/
def State.polling (s : State) : Bool := s.role == .receiving && s.hostReq.valid && s.txph == .idle

/-- The precondition of `FRAME_DONE` (R132): a CS falling edge has just been handled. -/
def State.atFrameEnd (s : State) : Bool :=
  s.role == .receiving && s.irqEn && !s.csIn && s.txph == .idle && s.rxbuf.isEmpty

/-- A poll that finds CS active is the last one allowed (R101). -/
def State.pollsExhausted (s : State) : Bool := decide (s.cfg.busFreeTimeoutPolls ≤ s.hostPolls + 1)

/-- The completed host send is retained (R108, R12): `RETAIN_ON_SEND` and the payload is not the sentinel. -/
def State.retains (s : State) : Bool := s.cfg.retainOnSend && s.hostReq.p != sentinel

end Sys2Proof.Machine
end

