-- ==== Sys2Proof/Machine/Ops.lean ====
section
/-! DEFINITION. The shared operations: events, the raw bit buffer, `ACQUIRE` (the block's analogue of taking an
exception, R161) and the release of the bus beside it (the analogue of the return, R162). -/

namespace Sys2Proof.Machine

/-- `emit E(args)`: the event is visible to the host from this step on (R35). -/
def State.emit (s : State) (e : Event) : State := { s with events := s.events ++ [e] }

/-- `raise X` of the two errors the host sees (00_scope.md section 6): the event, nothing saved (R161). -/
def State.raise (s : State) (r : SendResult) : State := s.emit (.sendResult r)

/-- `append(RXBUF, b)` under the cap: a bit that finds the buffer full is dropped (R51, R122). -/
def State.capture (s : State) (b : Bit) : State :=
  if s.rxcnt < s.cfg.maxBufferBits then { s with rxbuf := s.rxbuf ++ [b] } else s

/-- `RXBUF <- []`. -/
def State.clearBuffer (s : State) : State := { s with rxbuf := [] }

/-- `ACQUIRE(seq, src)` (R102): mask the edge handlers, take the role, turn the lines to outputs at the idle
levels, load the sequencer; all in the one step that contains it (R61). -/
def State.acquire (s : State) (seq : BitSeq) (src : Source) : State :=
  { s with
    irqEn := false
    role := .sending
    oe := true
    clkOut := false
    csOut := false
    dataOut := false
    txseq := seq
    txidx := 0
    txsrc := src
    txph := .csAssert }

/-- The first four writes of `TX_RELEASE` (R108): stop driving, return to `Receiving`, unmask, go idle. -/
def State.releaseBus (s : State) : State :=
  { s with oe := false, role := .receiving, irqEn := true, txph := .idle }

/-- `HOST_REQ.valid <- 0; HOST_POLLS <- 0` (R101, R108). -/
def State.clearRequest (s : State) : State :=
  { s with hostReq := { s.hostReq with valid := false }, hostPolls := 0 }

/-- `LAST <- p; LAST_VALID <- 1` (R108, R135). -/
def State.retain (s : State) (p : Payload) : State := { s with last := p, lastValid := true }

/-- `ACQUIRE(ENCODE(p), src)` (R101, R134, R136). `ENCODE`'s precondition is every caller's; where it fails the
step faults (assumption 13). -/
def sendFrame (p : Payload) (src : Source) (s : State) : Res :=
  match frameEncode p with
  | some seq => .next (s.acquire seq src)
  | none => .fault .encodeTooLong

/-- `enabled when c` (00_scope.md section 6): the step exists only where `c` holds and, but for `HOST_INIT`, only
after `HOST_INIT` (R24, R181). Elsewhere it cannot be taken: refused. Assumption 8. -/
def whenEnabled (c : Bool) (s : State) (k : Res) : Res :=
  if s.initDone then (if c then k else .refused .notEnabled) else .refused .notInitialised

end Sys2Proof.Machine
end

