-- ==== Sys2Proof/Machine/Driver.lean ====
section
/-! DEFINITION. The Bit Clock Driver (41_driver.md): one meaning for each operation of a `TICK` step. -/

namespace Sys2Proof.Machine

/-- `TX_POLL` (R101): a free bus wins over an expired count (R160). -/
def execTxPoll (s : State) : Res :=
  whenEnabled s.polling s
    (if !s.csIn then sendFrame s.hostReq.p .host s
     else if s.pollsExhausted then .next (s.raise .busBusyTimeout).clearRequest
     else .next { s with hostPolls := s.hostPolls + 1 })

/-- `TX_CS_ASSERT` (R103). -/
def execTxCsAssert (s : State) : Res :=
  whenEnabled (s.atPhase .csAssert) s (.next { s with csOut := true, txph := .data })

/-- `TX_DATA` (R104): Data is set in a step of its own before the clock rises (R194). -/
def execTxData (s : State) : Res :=
  whenEnabled (s.atPhase .data) s
    (match s.txseq[s.txidx]? with
     | some b => .next { s with dataOut := b, txph := .clkHigh }
     | none => .fault .txIndexPastEnd)

/-- `TX_CLK_HIGH` (R105). -/
def execTxClkHigh (s : State) : Res :=
  whenEnabled (s.atPhase .clkHigh) s (.next { s with clkOut := true, txph := .clkLow })

/-- `TX_CLK_LOW` (R106): the loop test of step 4. -/
def execTxClkLow (s : State) : Res :=
  whenEnabled (s.atPhase .clkLow) s
    (.next { s with
      clkOut := false
      txidx := s.txidx + 1
      txph := if s.txidx + 1 = s.txseq.length then .csDeassert else .data })

/-- `TX_CS_DEASSERT` (R107). -/
def execTxCsDeassert (s : State) : Res :=
  whenEnabled (s.atPhase .csDeassert) s (.next { s with csOut := false, txph := .release })

/-- The second part of `TX_RELEASE` (R108), for a host send: the result, the retained payload, the request. -/
def State.finishHostSend (s : State) : State :=
  let told := s.raise .ok
  let kept := if s.retains then told.retain s.hostReq.p else told
  kept.clearRequest

/-- `TX_RELEASE` (R108). An internal send reports nothing and retains nothing. -/
def execTxRelease (s : State) : Res :=
  whenEnabled (s.atPhase .release) s
    (match s.txsrc with
     | .host => .next s.releaseBus.finishHostSend
     | .internal => .next s.releaseBus)

/-- `TICK_NONE` (R110, selector `00000`): "the transmit sequencer has nothing to do and no `TICK` step exists".
Refused, as every step that is not enabled; assumption 7. -/
def execTickNone (s : State) : Res := if s.initDone then .refused .noTickStep else .refused .notInitialised

/-- The order of the micro-steps of a frame of `m` bits (R109). -/
def frameOps (m : Nat) : List Instr :=
  [.txCsAssert] ++ (List.replicate m [.txData, .txClkHigh, .txClkLow]).flatten ++ [.txCsDeassert, .txRelease]

end Sys2Proof.Machine
end

