-- ==== Sys2Proof/Machine/HostCommands.lean ====
section
/-! DEFINITION. The two host commands: `HOST_INIT` (R130) and `HOST_SEND` (R100). -/

namespace Sys2Proof.Machine

/-- The writes of `HOST_INIT` (R130). `LAST` and `HOST_REQ.p` are not among them: they stay unspecified (R37). -/
def State.initialise (s : State) (cs0 clk0 data0 : Bit) : State :=
  { s with
    initDone := true
    role := .receiving
    oe := false
    clkOut := false
    dataOut := false
    csOut := false
    csIn := cs0
    clkIn := clk0
    dataIn := data0
    rxbuf := []
    lastValid := false
    hostReq := { s.hostReq with valid := false }
    hostPolls := 0
    txph := .idle
    txidx := 0
    txsrc := .host
    txseq := []
    irqEn := true }

/-- `HOST_INIT(cs0, clk0, data0)` (R130): enabled when `INIT_DONE = 0`, hence once (R182). -/
def execHostInit (cs0 clk0 data0 : Bit) (s : State) : Res :=
  if s.initDone then .refused .notEnabled else .next (s.initialise cs0 clk0 data0)

/-- `HOST_SEND(p)` (R100): enabled when no earlier host send waits for its result. The length check comes first
(R151); the role does not matter. -/
def execHostSend (p : Payload) (s : State) : Res :=
  whenEnabled (!s.hostReq.valid) s
    (if maxPayload < p.length then .next (s.raise .payloadTooLong)
     else .next { s with hostReq := ⟨true, p⟩, hostPolls := 0 })

end Sys2Proof.Machine
end

