-- ==== Sys2Proof/Machine/LinkFsm.lean ====
section
/-! DEFINITION. The Link State Machine's frame-done dispatch and its arms (43_link_fsm.md), and the rows of the two
fixed frames. Each arm is written once as the effect that `FRAME_DONE` performs; the meaning of its row is that
effect under `FRAME_DONE`'s precondition (assumption 10). -/

namespace Sys2Proof.Machine

/-- `FD_EMPTY` (R133): nothing. -/
def fdEmpty (s : State) : Res := .next s

/-- `FD_ERROR_REPLY` (R134): `ACQUIRE(ENCODE(SENTINEL), Internal)`. `LAST` and the request are untouched. -/
def fdErrorReply (s : State) : Res := sendFrame sentinel .internal s

/-- `FD_DELIVER(p)` (R135): the update of `LAST` comes first, then the one event. -/
def fdDeliver (p : Payload) (s : State) : Res := .next ((s.retain p).emit (.onMessage p))

/-- `FD_RESEND` (R136): `ACQUIRE(ENCODE(LAST), Internal)`. -/
def fdResend (s : State) : Res := sendFrame s.last .internal s

/-- `FD_RESEND_NONE` (R137): nothing. -/
def fdResendNone (s : State) : Res := .next s

/-- `FRAME_DONE(b)` (R132): the tests in the order empty, incomplete, invalid, sentinel, deliver (R160). -/
def frameDone (b : BitSeq) (s : State) : Res :=
  if b.isEmpty then fdEmpty s
  else
    match frameDecode b with
    | .error _ => fdErrorReply s
    | .ok m =>
      if !m.valid then fdErrorReply s
      else if m.payload = sentinel then (if s.lastValid then fdResend s else fdResendNone s)
      else fdDeliver m.payload s

/-- The row of `FD_EMPTY`. -/
def execFdEmpty (s : State) : Res := whenEnabled s.atFrameEnd s (fdEmpty s)

/-- The row of `FD_ERROR_REPLY` for an incomplete frame (selector `10---`). -/
def execFdErrorReplyIncomplete (s : State) : Res := whenEnabled s.atFrameEnd s (fdErrorReply s)

/-- The row of `FD_ERROR_REPLY` for a checksum mismatch (selector `110--`). -/
def execFdErrorReplyMismatch (s : State) : Res := whenEnabled s.atFrameEnd s (fdErrorReply s)

/-- The row of `FD_DELIVER(p)`: a payload a valid frame can hold, not the sentinel (selector `1110-`). -/
def execFdDeliver (p : Payload) (s : State) : Res :=
  whenEnabled (s.atFrameEnd && fitsFrame p && p != sentinel) s (fdDeliver p s)

/-- The row of `FD_RESEND`: something is retained (selector `11111`). -/
def execFdResend (s : State) : Res := whenEnabled (s.atFrameEnd && s.lastValid) s (fdResend s)

/-- The row of `FD_RESEND_NONE`: nothing is retained (selector `11110`). -/
def execFdResendNone (s : State) : Res := whenEnabled (s.atFrameEnd && !s.lastValid) s (fdResendNone s)

/-- The row of `FRAME_EMPTY` (R75): the dispatch on the completed frame of the empty payload. DESIGN CHOICE,
assumption 11. -/
def execFrameEmpty (s : State) : Res := whenEnabled s.atFrameEnd s (frameDone emptyFrame s)

/-- The row of `FRAME_SENTINEL` (R76): the dispatch on the completed sentinel frame. DESIGN CHOICE,
assumption 11. -/
def execFrameSentinel (s : State) : Res := whenEnabled s.atFrameEnd s (frameDone sentinelFrame s)

end Sys2Proof.Machine
end

