-- ==== Sys2Proof/Machine/Sampler.lean ====
section
/-! DEFINITION. The Bit Sampler (42_sampler.md): one meaning for each operation of a `PIN_*` step. Every one of
them writes the level of its line and then acts (R120). -/

namespace Sys2Proof.Machine

/-- `EV_CS_RISE` (R121). -/
def execEvCsRise (s : State) : Res :=
  whenEnabled (s.irqEn && !s.csIn) s (.next (s.setLevel .cs true).clearBuffer)

/-- `EV_CS_FALL` (R123): hand-over, clear and dispatch in one step (R55). -/
def execEvCsFall (s : State) : Res :=
  whenEnabled (s.irqEn && s.csIn) s (frameDone s.rxbuf (s.setLevel .cs false).clearBuffer)

/-- `EV_CLK_RISE` with CS active (R122): sample the Data level reported before this step. -/
def execEvClkRise (s : State) : Res :=
  whenEnabled (s.irqEn && s.csIn && !s.clkIn) s (.next ((s.setLevel .clk true).capture s.dataIn))

/-- `EV_CLK_RISE_IDLE` (R122): CS inactive, the edge is ignored. -/
def execEvClkRiseIdle (s : State) : Res :=
  whenEnabled (s.irqEn && !s.csIn && !s.clkIn) s (.next (s.setLevel .clk true))

/-- `EV_CLK_FALL` (R124): no handler; the level is tracked. -/
def execEvClkFall (s : State) : Res :=
  whenEnabled (s.irqEn && s.clkIn) s (.next (s.setLevel .clk false))

/-- `EV_DATA` (R125): tracked whatever `IRQ_EN` is. -/
def execEvData (v : Bit) (s : State) : Res := whenEnabled true s (.next (s.setLevel .data v))

/-- `EV_MASKED` (R120): a CS or Clock step while `IRQ_EN = 0`; the edge is lost (R159). -/
def execEvMasked (l : Line) (v : Bit) (s : State) : Res :=
  whenEnabled (!s.irqEn && l.hasHandler) s (.next (s.setLevel l v))

/-- `EV_STEADY` at level 0 (R120): no transition, hence no edge. -/
def execEvSteadyLow (l : Line) (s : State) : Res :=
  whenEnabled (s.irqEn && l.hasHandler && !s.level l) s (.next (s.setLevel l false))

/-- `EV_STEADY` at level 1 (R120): no transition, hence no edge. -/
def execEvSteadyHigh (l : Line) (s : State) : Res :=
  whenEnabled (s.irqEn && l.hasHandler && s.level l) s (.next (s.setLevel l true))

end Sys2Proof.Machine
end

