-- ==== Sys2Proof/Machine/Dispatch.lean ====
section
/-! DEFINITION. The dispatch: one arm for each constructor of `Instr`. -/

namespace Sys2Proof.Machine

def exec (i : Instr) (s : State) : Host.Outcome State Fault Refusal :=
  match i with
  -- HOST
  | .hostInit cs0 clk0 data0 => Sys2Proof.Machine.execHostInit cs0 clk0 data0 s
  | .hostSend p => Sys2Proof.Machine.execHostSend p s
  -- TICK
  | .txPoll => Sys2Proof.Machine.execTxPoll s
  | .txCsAssert => Sys2Proof.Machine.execTxCsAssert s
  | .txData => Sys2Proof.Machine.execTxData s
  | .txClkHigh => Sys2Proof.Machine.execTxClkHigh s
  | .txClkLow => Sys2Proof.Machine.execTxClkLow s
  | .txCsDeassert => Sys2Proof.Machine.execTxCsDeassert s
  | .txRelease => Sys2Proof.Machine.execTxRelease s
  | .tickNone => Sys2Proof.Machine.execTickNone s
  -- PIN
  | .evCsRise => Sys2Proof.Machine.execEvCsRise s
  | .evCsFall => Sys2Proof.Machine.execEvCsFall s
  | .evClkRise => Sys2Proof.Machine.execEvClkRise s
  | .evClkRiseIdle => Sys2Proof.Machine.execEvClkRiseIdle s
  | .evClkFall => Sys2Proof.Machine.execEvClkFall s
  | .evData v => Sys2Proof.Machine.execEvData v s
  | .evMasked l v => Sys2Proof.Machine.execEvMasked l v s
  | .evSteadyLow l => Sys2Proof.Machine.execEvSteadyLow l s
  | .evSteadyHigh l => Sys2Proof.Machine.execEvSteadyHigh l s
  -- FD
  | .fdEmpty => Sys2Proof.Machine.execFdEmpty s
  | .fdErrorReplyIncomplete => Sys2Proof.Machine.execFdErrorReplyIncomplete s
  | .fdErrorReplyMismatch => Sys2Proof.Machine.execFdErrorReplyMismatch s
  | .fdDeliver p => Sys2Proof.Machine.execFdDeliver p s
  | .fdResend => Sys2Proof.Machine.execFdResend s
  | .fdResendNone => Sys2Proof.Machine.execFdResendNone s
  -- FUNC
  | .checksum p => Sys2Proof.Machine.execChecksum p s
  | .encode p => Sys2Proof.Machine.execEncode p s
  | .decode b => Sys2Proof.Machine.execDecode b s
  -- FRAME
  | .frameEmpty => Sys2Proof.Machine.execFrameEmpty s
  | .frameSentinel => Sys2Proof.Machine.execFrameSentinel s

end Sys2Proof.Machine
end

