-- ==== Sys2Proof/Machine/Fetch.lean ====
section
/-! DEFINITION. How a step fetches its operation: the next input of the schedule and the selector word that input
and the state give (R77, R78, R80, R84); and the state changes that make the next step select a given
operation. -/

namespace Sys2Proof.Machine

/-- The input the next step takes: the head of the schedule; with nothing scheduled a `TICK` of the framer's own
sequencer where R110 enables one, and none where it does not: the framer is "simply idle" (R170). DESIGN CHOICE,
assumption 3. -/
def State.nextInput (s : State) : Option Input :=
  match s.inputs with
  | e :: _ => some e
  | [] => if s.tickEnabled then some .tick else none

/-- The schedule without its head. -/
def State.popInput (s : State) : State := { s with inputs := s.inputs.tail }

/-- The operation word an input selects, from the state before the step (R120: "from the values before the
step"). -/
def inputWord (e : Input) (s : State) : OpWord :=
  match e with
  | .hostInit c k d => ⟨.host, 1, 0, .levels c k d⟩
  | .hostSend p => ⟨.host, 1, 1, .payload p⟩
  | .pin l v => ⟨.pin, 6, pinSelector l v s, .none⟩
  | .tick => ⟨.tick, 5, tickSelector s, .none⟩
  | .call w => w

/-- A call reaches the codec functions only (R84; assumption 6): the other operations are selected by their own
steps and never called. -/
def callable : Instr → Bool
  | .checksum _ => true
  | .encode _ => true
  | .decode _ => true
  | _ => false

/-- The operation an input selects, or the name under which it is rejected. -/
def selected (e : Input) (s : State) : Except DecodeReject Instr :=
  match e, decode (inputWord e s) with
  | .call _, .ok i => if callable i then .ok i else .error .notCallable
  | _, r => r

/-- Schedule an input first. -/
def State.pushInput (s : State) (e : Input) : State := { s with inputs := e :: s.inputs }

/-- The framer initialised and receiving, its lines released and its handlers enabled. -/
def State.receivingNow (s : State) : State :=
  { s with initDone := true, role := .receiving, irqEn := true, oe := false, txph := .idle }

/-- The framer initialised and sending, at a phase of a frame at its first bit. Where no frame is loaded, the
frame of the empty payload is. -/
def State.sendingAt (s : State) (p : Phase) : State :=
  { s with
    initDone := true
    role := .sending
    irqEn := false
    oe := true
    txph := p
    txidx := 0
    txseq := if s.txseq.isEmpty then emptyFrame else s.txseq
    rxbuf := [] }

/-- A buffer whose hand-over selects a frame-done arm (R79); a payload's own frame for `FD_DELIVER`. -/
def State.withBuffer (s : State) (b : BitSeq) : State :=
  ({ s.receivingNow with csIn := true, rxbuf := b }).pushInput (.pin .cs false)

/-- The state in which the next step runs this operation: every register that the operation's selector reads set
to what selects it, and the input that selects it scheduled first. A frame-done arm and a frame run inside
`EV_CS_FALL`, so the buffer that leads to them is set and CS falls (assumption 12). -/
def State.prepare (s : State) : Instr → State
  | .hostInit c k d => ({ s with initDone := false }).pushInput (.hostInit c k d)
  | .hostSend p =>
    ({ s with initDone := true, hostReq := { s.hostReq with valid := false } }).pushInput (.hostSend p)
  | .txPoll => ({ s.receivingNow with hostReq := { s.hostReq with valid := true } }).pushInput .tick
  | .txCsAssert => (s.sendingAt .csAssert).pushInput .tick
  | .txData => (s.sendingAt .data).pushInput .tick
  | .txClkHigh => (s.sendingAt .clkHigh).pushInput .tick
  | .txClkLow => (s.sendingAt .clkLow).pushInput .tick
  | .txCsDeassert => (s.sendingAt .csDeassert).pushInput .tick
  | .txRelease => (s.sendingAt .release).pushInput .tick
  | .tickNone => ({ s.receivingNow with hostReq := { s.hostReq with valid := false } }).pushInput .tick
  | .evCsRise => ({ s.receivingNow with csIn := false }).pushInput (.pin .cs true)
  | .evCsFall => ({ s.receivingNow with csIn := true }).pushInput (.pin .cs false)
  | .evClkRise => ({ s.receivingNow with csIn := true, clkIn := false }).pushInput (.pin .clk true)
  | .evClkRiseIdle => ({ s.receivingNow with csIn := false, clkIn := false }).pushInput (.pin .clk true)
  | .evClkFall => ({ s.receivingNow with clkIn := true }).pushInput (.pin .clk false)
  | .evData v => ({ s with initDone := true }).pushInput (.pin .data v)
  | .evMasked l v => (s.sendingAt .csAssert).pushInput (.pin l v)
  | .evSteadyLow l => (s.receivingNow.setLevel l false).pushInput (.pin l false)
  | .evSteadyHigh l => (s.receivingNow.setLevel l true).pushInput (.pin l true)
  | .fdEmpty => s.withBuffer []
  | .fdErrorReplyIncomplete => s.withBuffer [true]
  | .fdErrorReplyMismatch => s.withBuffer (msb8 0x00 ++ msb8 0x01)
  | .fdDeliver p => s.withBuffer (frameBits p)
  | .fdResend => ({ s with lastValid := true }).withBuffer sentinelFrame
  | .fdResendNone => ({ s with lastValid := false }).withBuffer sentinelFrame
  | .checksum p => s.pushInput (.call ⟨.func, 2, 0b00, .payload p⟩)
  | .encode p => s.pushInput (.call ⟨.func, 2, 0b01, .payload p⟩)
  | .decode b => s.pushInput (.call ⟨.func, 2, 0b10, .bits b⟩)
  | .frameEmpty => s.withBuffer emptyFrame
  | .frameSentinel => s.withBuffer sentinelFrame

/-- A schedule whose first step is refused: the word that no row decodes, as a call. -/
def State.prepareReject (s : State) (nbits w : Nat) : State := s.pushInput (.call ⟨.func, nbits, w, .none⟩)

/-- What a listening framer sees of a peer that clocks out the bits `s` (R111): CS rises, each bit is set on Data
before its Clock pulse, CS falls. -/
def wireInputs (s : BitSeq) : List Input :=
  [.pin .cs true] ++ s.flatMap (fun b => [.pin .data b, .pin .clk true, .pin .clk false]) ++ [.pin .cs false]

end Sys2Proof.Machine
end

