-- ==== Sys2Proof/Machine/Step.lean ====
section
/-! DEFINITION. One step: fetch the next input, select its operation, run it. -/

namespace Sys2Proof.Machine

/-- One step of the alphabet on a state (R20, R21): the operation the input selects, run to its end. -/
def stepInput (e : Input) (s : State) : Res :=
  match selected e s with
  | .ok i => exec i s
  | .error r => .refused (.noOperation r)

/-- One step of the machine: the next input is consumed and performed; where there is none, the framer stays as
it is until the environment or the host moves (R170). -/
def step (s : State) : Host.Outcome State Fault Refusal :=
  match s.nextInput with
  | some e => stepInput e s.popInput
  | none => .next s

/-- A sequence of steps, stopping at the first that is not a next state. -/
def runInputs : List Input → State → Res
  | [], s => .next s
  | e :: es, s =>
    match stepInput e s with
    | .next t => runInputs es t
    | .fault f => .fault f
    | .refused r => .refused r

/-- The state whose next step fetches and runs the operation of a bare table word (assumption 12). -/
def State.withFetchWord (s : State) (nbits w : Nat) : State :=
  match decodeTableWord nbits w with
  | some i => s.prepare i
  | none => s.prepareReject nbits w

end Sys2Proof.Machine
end

