-- ==== Sys2Proof/Machine/Timing.lean ====
section
/-! DEFINITION. What the spec says about time (R9 to R11, R200 to R203): the waits it names after an operation. No
transition reads a duration (assumption 19); durations are in one unit the configuration chooses. -/

namespace Sys2Proof.Machine

/-- The wait the spec names after an operation, and none where it names no wait. None is not zero: how long hardware
takes there (execution and handler time, Data setup, CS-inactive time, turnaround) has no figure, and nothing is
assumed of it (R203). Assumption 21. The named waits: `CS_SETTLE` after CS is asserted
(R103), `BIT_PERIOD` after each Clock change (R105, R106), `POLL_INTERVAL` after `TX_POLL` (R11, R101). R11 gives
`POLL_INTERVAL` only between two polls; that it also follows a poll that acquires the bus or times out is the
model's. DESIGN CHOICE, assumption 20. -/
def dwellAfter (c : Config) : Instr → Option Nat
  | .txCsAssert => some c.csSettle
  | .txClkHigh | .txClkLow => some c.bitPeriod
  | .txPoll => some c.pollInterval
  | .txData | .txCsDeassert | .txRelease | .tickNone => none
  | .hostInit _ _ _ | .hostSend _ => none
  | .evCsRise | .evCsFall | .evClkRise | .evClkRiseIdle | .evClkFall | .evData _ | .evMasked _ _ => none
  | .evSteadyLow _ | .evSteadyHigh _ => none
  | .fdEmpty | .fdErrorReplyIncomplete | .fdErrorReplyMismatch | .fdDeliver _ | .fdResend | .fdResendNone => none
  | .checksum _ | .encode _ | .decode _ | .frameEmpty | .frameSentinel => none

/-- The named waits of a sequence of operations, added up: not the time it takes, since the times without a figure
are not counted (R201: "not counting the execution time of the line writes"). DESIGN CHOICE, assumption 21. -/
def dwellOf (c : Config) (ops : List Instr) : Nat := (ops.filterMap (dwellAfter c)).sum

/-- The time one bit takes on the wire (R9, R200). -/
def bitTime (c : Config) : Nat := 2 * c.bitPeriod

/-- How long a frame with payload length `L` keeps CS active, the execution time of the line writes not counted
(R201). -/
def csActiveTime (c : Config) (L : Nat) : Nat := c.csSettle + 2 * c.bitPeriod * frameLength L

/-- The bound of the bus-free wait (R11, R202). -/
def busWaitBound (c : Config) : Nat := c.busFreeTimeoutPolls * c.pollInterval

end Sys2Proof.Machine
end

