-- ==== Sys2Proof/Machine/Link.lean ====
section
/-! DEFINITION. Two framers on the three shared wires (R57, R168): the composed model the spec describes beside the
model of one framer. Every step of it is one step of one endpoint (assumption 16). -/

namespace Sys2Proof.Machine

/-- The two endpoints. They are symmetric and have no identifiers of their own (R168). -/
inductive Side where
  | a
  | b
deriving DecidableEq, Repr

/-- The other endpoint. -/
def Side.other : Side → Side
  | .a => .b
  | .b => .a

/-- What an agent of one endpoint does next. The lines are moved by the endpoints alone. -/
inductive Move where
  /-- That endpoint's host calls `initialize`; the levels are the wires' at that instant (R29). -/
  | init (side : Side)
  /-- That endpoint's host calls `send`. -/
  | send (side : Side) (p : Payload)
  /-- That endpoint's sequencer takes a `TICK`. -/
  | tick (side : Side)
deriving DecidableEq, Repr

/-- Which endpoint a move is a step of. -/
def Move.side : Move → Side
  | .init d => d
  | .send d _ => d
  | .tick d => d

/-- The levels of the three wires as last evaluated. -/
structure Wires where
  cs : Bit
  clk : Bit
  data : Bit
deriving DecidableEq, Repr

/-- The level of one wire. -/
def Wires.level (w : Wires) : Line → Bit
  | .cs => w.cs
  | .clk => w.clk
  | .data => w.data

/-- Two framers, the wires between them, the pin steps still to deliver, the moves to come and the counter of
free values drawn. -/
structure Link where
  a : State
  b : State
  wires : Wires
  /-- Pin steps to deliver before anything else happens (R57), oldest first. -/
  pins : List (Side × Line × Bit)
  moves : List Move
  draws : Nat
deriving DecidableEq, Repr

/-- One endpoint. -/
def Link.get (k : Link) : Side → State
  | .a => k.a
  | .b => k.b

/-- Replace one endpoint. -/
def Link.set (k : Link) (d : Side) (s : State) : Link :=
  match d with
  | .a => { k with a := s }
  | .b => { k with b := s }

/-- `line(X)` of what the two endpoints drive (R57): undriven 0, one driver wins, two agreeing drivers give their
value, two disagreeing drivers give the free value. -/
def lineLevel (free : Bit) : Option Bit → Option Bit → Bit
  | none, none => false
  | some v, none => v
  | none, some v => v
  | some v, some w => if v = w then v else free

/-- The orders three lines can be delivered in (R22, U4). -/
def lineOrder (n : Fin 6) : List Line :=
  match n with
  | 0 => [.cs, .clk, .data]
  | 1 => [.cs, .data, .clk]
  | 2 => [.clk, .cs, .data]
  | 3 => [.clk, .data, .cs]
  | 4 => [.data, .cs, .clk]
  | 5 => [.data, .clk, .cs]

/-- The wires evaluated now, with fresh free values for contended lines. -/
def Link.evalWires (k : Link) : Wires where
  cs := lineLevel (Config.freeLevel k.draws) (k.a.drive .cs) (k.b.drive .cs)
  clk := lineLevel (Config.freeLevel (k.draws + 1)) (k.a.drive .clk) (k.b.drive .clk)
  data := lineLevel (Config.freeLevel (k.draws + 2)) (k.a.drive .data) (k.b.drive .data)

/-- The pin steps that a change of the wires gives: every changed line, to each endpoint (R57). -/
def pinSteps (order : List Line) (before after : Wires) : List (Side × Line × Bit) :=
  (order.filter fun l => after.level l != before.level l).flatMap fun l =>
    [(Side.a, l, after.level l), (Side.b, l, after.level l)]

/-- Evaluate the wires after a step of an endpoint and schedule the pin steps. -/
def Link.refresh (k : Link) : Link :=
  { k with
    wires := k.evalWires
    pins := k.pins ++ pinSteps (lineOrder (Config.freeOrder k.draws)) k.wires k.evalWires
    draws := k.draws + 3 }

/-- What an endpoint drives onto the three lines. -/
def State.drives (s : State) : Option Bit × Option Bit × Option Bit := (s.drive .cs, s.drive .clk, s.drive .data)

/-- The input of the endpoint that a move stands for. -/
def Move.input (w : Wires) : Move → Input
  | .init _ => .hostInit w.cs w.clk w.data
  | .send _ p => .hostSend p
  | .tick _ => .tick

/-- Deliver one pin step; the wires are evaluated again if that step made the endpoint take the bus. An endpoint
before `HOST_INIT` has no pin step (R24): the change of the line passes it by (R181). -/
def Link.deliver (k : Link) (d : Side) (l : Line) (v : Bit) : Host.Outcome Link Fault Refusal :=
  if (k.get d).initDone then
    match stepInput (.pin l v) (k.get d) with
    | .next t => .next (if t.drives = (k.get d).drives then k.set d t else (k.set d t).refresh)
    | .fault f => .fault f
    | .refused r => .refused r
  else .next k

/-- Perform one move and evaluate the wires. -/
def Link.move (k : Link) (m : Move) : Host.Outcome Link Fault Refusal :=
  match stepInput (m.input k.wires) (k.get m.side) with
  | .next t => .next (k.set m.side t).refresh
  | .fault f => .fault f
  | .refused r => .refused r

/-- One step of the link: the oldest pin step to deliver, else the next move, else nothing. -/
def Link.step (k : Link) : Host.Outcome Link Fault Refusal :=
  match k.pins, k.moves with
  | (d, l, v) :: rest, _ => ({ k with pins := rest }).deliver d l v
  | [], m :: rest => ({ k with moves := rest }).move m
  | [], [] => .next k

/-- `n` steps of the link, stopping at the first that is not a next state. -/
def Link.run : Nat → Link → Host.Outcome Link Fault Refusal
  | 0, k => .next k
  | n + 1, k =>
    match k.step with
    | .next k' => Link.run n k'
    | .fault f => .fault f
    | .refused r => .refused r

/-- Both endpoints just reset on a quiet bus, with a list of moves to come. -/
def Link.start (ca cb : Config) (moves : List Move) : Link where
  a := State.resetWith ca false false false
  b := State.resetWith cb false false false
  wires := ⟨false, false, false⟩
  pins := []
  moves := moves
  draws := 0

end Sys2Proof.Machine
end

