-- ==== Sys2Proof/Safety.lean ====
section
/-! DEFINITION. The terms claims are stated in: the invariants of R36, the reachable states, what the host
observes, and the named premises of 70_reset_and_hazards.md. -/

namespace Sys2Proof.Machine

/-- R36 (a): the role, the mask, the direction and the sequencer agree. -/
def State.roleAgrees (s : State) : Prop :=
  (s.role = .receiving ↔ s.irqEn = true) ∧ (s.role = .receiving ↔ s.oe = false) ∧
    (s.role = .receiving ↔ s.txph = .idle)

/-- R36 (b): the buffer is bounded. -/
def State.bufferBounded (s : State) : Prop := s.rxcnt ≤ s.cfg.maxBufferBits

/-- R36 (c): bits stand in the buffer only inside a frame that is being received. -/
def State.bufferInFrame (s : State) : Prop := s.rxbuf ≠ [] → s.csIn = true ∧ s.role = .receiving

/-- R36 (d): the frame in flight has a frame's length and the index does not pass its end. -/
def State.frameInFlight (s : State) : Prop :=
  s.role = .sending →
    16 ≤ s.txseq.length ∧ s.txseq.length ≤ 2056 ∧ s.txseq.length % 8 = 0 ∧ s.txidx ≤ s.txseq.length

/-- R36 (e): the poll count and the payload registers are within their ranges. -/
def State.requestBounded (s : State) : Prop :=
  (s.hostReq.valid = true → s.hostPolls < s.cfg.busFreeTimeoutPolls) ∧ s.hostReq.p.length ≤ maxPayload ∧
    s.last.length ≤ maxPayload

/-- R36 (f): the sentinel is never retained. -/
def State.lastNotSentinel (s : State) : Prop := s.lastValid = true → s.last ≠ sentinel

/-- The invariants of R36, (a) to (f). -/
structure State.SpecInvariants (s : State) : Prop where
  roleAgrees : s.roleAgrees
  bufferBounded : s.bufferBounded
  bufferInFrame : s.bufferInFrame
  frameInFlight : s.frameInFlight
  requestBounded : s.requestBounded
  lastNotSentinel : s.lastNotSentinel

/-- Where the sequencer stands in its frame and what it drives there (R109, R111). -/
def State.phaseAgrees (s : State) : Prop :=
  match s.txph with
  | .idle => s.csOut = false ∧ s.clkOut = false
  | .csAssert => s.txidx = 0 ∧ s.csOut = false ∧ s.clkOut = false
  | .data => s.txidx < s.txseq.length ∧ s.csOut = true ∧ s.clkOut = false
  | .clkHigh => s.txseq[s.txidx]? = some s.dataOut ∧ s.csOut = true ∧ s.clkOut = false
  | .clkLow => s.txseq[s.txidx]? = some s.dataOut ∧ s.csOut = true ∧ s.clkOut = true
  | .csDeassert => s.txidx = s.txseq.length ∧ s.csOut = true ∧ s.clkOut = false
  | .release => s.txidx = s.txseq.length ∧ s.csOut = false ∧ s.clkOut = false

/-- What is in flight (R64, R81): the encoding of one payload; of the request's, if the host's send owns it. -/
def State.sourceAgrees (s : State) : Prop :=
  s.role = .sending →
    ∃ p : Payload, p.length ≤ maxPayload ∧ s.txseq = frameBits p ∧
      (s.txsrc = .host → s.hostReq.valid = true ∧ s.hostReq.p = p)

/-- The invariant of the machine: a valid configuration, the payload registers within their cells always, and
after `HOST_INIT` the invariants of R36 with what makes them inductive. -/
structure State.Inv (s : State) : Prop where
  cfgValid : s.cfg.Valid
  lastFits : s.last.length ≤ maxPayload
  requestFits : s.hostReq.p.length ≤ maxPayload
  spec : s.initDone = true → s.SpecInvariants
  phase : s.initDone = true → s.phaseAgrees
  source : s.initDone = true → s.sourceAgrees

/-- The states a run from `HOST_INIT` reaches, by any steps in any order (R21, R36). Before `HOST_INIT` the
registers are any values their cells can hold. -/
inductive Reachable : State → Prop where
  /-- Right after `HOST_INIT`. -/
  | init {s t : State} {c k d : Bit} (cfg : s.cfg.Valid) (uninit : s.initDone = false)
      (last : s.last.length ≤ maxPayload) (request : s.hostReq.p.length ≤ maxPayload)
      (run : stepInput (.hostInit c k d) s = .next t) : Reachable t
  /-- After one more step. -/
  | step {s t : State} {e : Input} (before : Reachable s) (run : stepInput e s = .next t) : Reachable t

/-- All the host can observe (R171): the events. -/
def State.hostView (s : State) : List Event := s.events

/-- A quiescent state (R140): nothing in flight and no request waiting. -/
def State.quiescent (s : State) : Bool := s.role == .receiving && !s.hostReq.valid

/-- Ready to receive a frame from its start: initialised, receiving, CS and Clock low. -/
def State.listening (s : State) : Prop :=
  s.initDone = true ∧ s.role = .receiving ∧ s.irqEn = true ∧ s.txph = .idle ∧ s.csIn = false ∧ s.clkIn = false

/-- Premise `NO_COLLISION` (R184): at most one endpoint drives. -/
def Link.noCollision (k : Link) : Prop := ¬(k.a.oe = true ∧ k.b.oe = true)

/-- Premise `PEER_RELEASES_FIRST` (R185), for a `TICK` of one endpoint: it does not assert CS while the other has
still to release. -/
def Link.peerReleasesFirst (k : Link) (d : Side) : Prop :=
  (k.get d).atPhase .csAssert = true → (k.get d.other).atPhase .release = false

/-- Premise `FRAMES_FIT` (R188): a payload's frame fits the receiver's buffer. -/
def framesFit (c : Config) (p : Payload) : Prop := frameLength p.length ≤ c.maxBufferBits

/-- Premise `EVENTUALLY_CLEAN` (R187), of the frames of a channel as (sent, captured): from some point on every
frame arrives uncorrupted. -/
def eventuallyClean (frames : Nat → BitSeq × BitSeq) : Prop := ∃ n, ∀ m, n ≤ m → (frames m).2 = (frames m).1

end Sys2Proof.Machine
end

