-- ==== Sys2Proof/Certificates/Slice0/Obligations.lean ====
section
/-! DEFINITION. The statements for the provers. Record updates `{ s with … }` state the frame: every field that is
not named is the field of `s`. -/

open Sys2Proof Sys2Proof.Machine

/-! ### Frame Codec -/

/-- R90: `CHECKSUM(p)` is the sum of the byte values modulo 256 and has no side effect. -/
def Obligations.ChecksumIsByteSumModulo256 : Prop :=
  ∀ (p : Payload) (s : State), ∃ c : Byte,
    exec (.checksum p) s = .next { s with fnResult := .checksum c } ∧
    c.toNat = (p.map BitVec.toNat).sum % 256

/-- R71, R91: `ENCODE(p)` bit by bit: the length byte, the payload bytes, the checksum byte, each most significant
bit first. A payload over 255 bytes is an error, never truncated: R91 allows a precondition or an error, and the
error value is the model's choice, assumption 6. -/
def Obligations.EncodeLaysOutFrame : Prop :=
  ∀ (p : Payload) (s : State),
    (p.length ≤ 255 → ∃ q : BitSeq,
      exec (.encode p) s = .next { s with fnResult := .frame q } ∧
      q.length = 16 + 8 * p.length ∧
      (∀ k < 8, q[k]? = some (p.length.testBit (7 - k))) ∧
      (∀ i, ∀ h : i < p.length, ∀ k < 8, q[8 + 8 * i + k]? = some (p[i].getLsbD (7 - k))) ∧
      (∀ k < 8, q[8 + 8 * p.length + k]? = some (((p.map BitVec.toNat).sum % 256).testBit (7 - k)))) ∧
    (255 < p.length → exec (.encode p) s = .next { s with fnResult := .tooLong })

/-- R92: `DECODE(b)`. Fewer than 8 bits, or fewer than `16 + 8 L` bits for the length field `L`, is
`IncompleteFrame`; else the fields are read most significant bit first, surplus bits are ignored, and `valid` is
the checksum test. -/
def Obligations.DecodeReadsFrameFields : Prop :=
  ∀ (b : BitSeq) (s : State), ∃ r : FnResult,
    exec (.decode b) s = .next { s with fnResult := r } ∧
    (b.length < 8 → r = .decodeError .incompleteFrame) ∧
    (∀ L : Byte, (∀ k < 8, b[k]? = some (L.getLsbD (7 - k))) →
      (b.length < 16 + 8 * L.toNat → r = .decodeError .incompleteFrame) ∧
      (16 + 8 * L.toNat ≤ b.length → ∃ m : Message, r = .message m ∧
        m.length = L.toNat ∧ m.payload.length = L.toNat ∧
        (∀ i, ∀ h : i < m.payload.length, ∀ k < 8, b[8 + 8 * i + k]? = some (m.payload[i].getLsbD (7 - k))) ∧
        (∀ k < 8, b[8 + 8 * L.toNat + k]? = some (m.checksum.getLsbD (7 - k))) ∧
        (m.valid = true ↔ m.checksum.toNat = (m.payload.map BitVec.toNat).sum % 256)))

/-- 40_codec.md, Laws (the spec's inference from R91 and R92): `DECODE(ENCODE(p) ++ t)` is `p` and valid for every
surplus `t`, and every proper initial part of `ENCODE(p)` is incomplete. -/
def Obligations.FrameRoundTrip : Prop :=
  ∀ p : Payload, p.length ≤ 255 → ∃ q : BitSeq, frameEncode p = some q ∧
    (∀ t : BitSeq, frameDecode (q ++ t) =
      .ok { length := p.length, payload := p, checksum := checksum p, valid := true }) ∧
    (∀ n < q.length, frameDecode (q.take n) = .error .incompleteFrame)

/-- 40_codec.md, Laws (the spec's inference): flipping any one bit of the payload region or of the checksum field
gives a frame with `valid = false`; flipping a 0 of the length field to 1 gives `IncompleteFrame`. (A 1 of the
length field flipped to 0 need not be detected: ShrinkingLengthFlipDecodesAPrefix.) -/
def Obligations.DetectedSingleBitFlips : Prop :=
  ∀ (p : Payload) (q : BitSeq) (i : Nat), frameEncode p = some q →
    (8 ≤ i → i < q.length → ∃ m, frameDecode (q.modify i (!·)) = .ok m ∧ m.valid = false) ∧
    (i < 8 → q[i]? = some false → frameDecode (q.modify i (!·)) = .error .incompleteFrame)

/-- 30_encoding.md section 2 (the spec's inference): the two fixed frames as bit patterns. -/
def Obligations.FixedFramesAreThePatterns : Prop :=
  frameEncode [] = some [false, false, false, false, false, false, false, false,
    false, false, false, false, false, false, false, false] ∧
  frameEncode [0x45, 0x52, 0x52, 0x4F, 0x52] = some
    [false, false, false, false, false, true, false, true,
     false, true, false, false, false, true, false, true,
     false, true, false, true, false, false, true, false,
     false, true, false, true, false, false, true, false,
     false, true, false, false, true, true, true, true,
     false, true, false, true, false, false, true, false,
     true, false, false, false, true, false, true, false]

/-! ### Host commands and initialisation -/

/-- R130: `HOST_INIT` puts every register in the reset state, whatever it held; `LAST` and `HOST_REQ.p`, which the
spec leaves unspecified, keep what they held: the model's choice, assumption 2. It is enabled once; that a step not
enabled is refused is the model's way to say so, assumption 8. -/
def Obligations.HostInitGivesResetState : Prop :=
  ∀ (s : State) (cs0 clk0 data0 : Bit),
    (s.initDone = false → exec (.hostInit cs0 clk0 data0) s = .next
      { State.resetWith s.cfg cs0 clk0 data0 with
        last := s.last
        hostReq := ⟨false, s.hostReq.p⟩
        inputs := s.inputs
        events := s.events
        fnResult := s.fnResult }) ∧
    (s.initDone = true → exec (.hostInit cs0 clk0 data0) s = .refused .notEnabled)

/-- R182: a second `HOST_INIT` has no step (the model refuses it: its choice, assumption 8), no step returns to the uninitialised state, nothing resets
`LAST_VALID`, and a pending request ends only by the timeout of `TX_POLL` or in `TX_RELEASE` of a host send. -/
def Obligations.NothingUndoesInitialisation : Prop :=
  ∀ (s : State), s.initDone = true →
    (∀ cs0 clk0 data0, stepInput (.hostInit cs0 clk0 data0) s = .refused .notEnabled) ∧
    (∀ e t, stepInput e s = .next t →
      t.initDone = true ∧
      (s.lastValid = true → t.lastValid = true) ∧
      (s.hostReq.valid = true → t.hostReq.valid = false → e = .tick ∧
        ((s.role = .receiving ∧ s.csIn = true ∧ s.cfg.busFreeTimeoutPolls ≤ s.hostPolls + 1) ∨
         (s.role = .sending ∧ s.txph = .release ∧ s.txsrc = .host))))

/-- R100: `HOST_SEND(p)` latches the request or raises `PayloadTooLong`; it is not enabled while a send is
outstanding (the model refuses it then: its choice, assumption 8); after acceptance the request ends exactly with its
one `SEND_RESULT`. -/
def Obligations.HostSendLatchesOrRejects : Prop :=
  (∀ (s : State) (p : Payload), s.initDone = true → s.hostReq.valid = false →
    (p.length ≤ 255 → exec (.hostSend p) s = .next { s with hostReq := ⟨true, p⟩, hostPolls := 0 }) ∧
    (255 < p.length → exec (.hostSend p) s =
      .next { s with events := s.events ++ [.sendResult .payloadTooLong] })) ∧
  (∀ (s : State) (p : Payload), s.initDone = true → s.hostReq.valid = true →
    exec (.hostSend p) s = .refused .notEnabled) ∧
  (∀ (s : State) (e : Input) (t : State), s.Inv → s.initDone = true → s.hostReq.valid = true →
    stepInput e s = .next t →
    ((t.hostReq.valid = false ↔
        ∃ r, t.events = s.events ++ [.sendResult r] ∧ (r = .ok ∨ r = .busBusyTimeout)) ∧
      (t.hostReq.valid = true → t.hostReq.p = s.hostReq.p ∧ ∀ r, t.events ≠ s.events ++ [.sendResult r])))

/-- R151: `PayloadTooLong` is raised only by `HOST_SEND` of more than 255 bytes, before anything is latched, and
records nothing. -/
def Obligations.PayloadTooLongOnlyAtHostSend : Prop :=
  ∀ (s : State) (e : Input) (t : State), stepInput e s = .next t →
    t.events = s.events ++ [.sendResult .payloadTooLong] →
    (∃ p, e = .hostSend p ∧ 255 < p.length) ∧ t = { s with events := t.events }

/-- R24, R181: before `HOST_INIT` no step of the alphabet but `HOST_INIT` is enabled, so no pin step, `HOST_SEND` or
`TICK` changes or leaves anything, and the block drives nothing. (A call of a codec function, which is the model's
own input, assumption 6, changes no register.) -/
def Obligations.OnlyHostInitBeforeInitialisation : Prop :=
  ∀ s : State, s.initDone = false →
    (∀ e t, (∀ w, e ≠ .call w) → stepInput e s = .next t → ∃ c k d, e = .hostInit c k d) ∧
    (∀ w t, stepInput (.call w) s = .next t → ∃ r, t = { s with fnResult := r }) ∧
    (∀ l, s.drive l = none)

/-! ### Bit Clock Driver -/

/-- R101, R102: `TX_POLL` acquires a free bus, counts a busy poll, or gives up at the bound. -/
def Obligations.TxPollArbitratesTheBus : Prop :=
  ∀ s : State, s.initDone = true → s.role = .receiving → s.hostReq.valid = true → s.txph = .idle →
    s.hostReq.p.length ≤ 255 →
    (s.csIn = false → exec .txPoll s = .next
      { s with
        irqEn := false, role := .sending, oe := true, clkOut := false, csOut := false, dataOut := false
        txseq := frameBits s.hostReq.p, txidx := 0, txsrc := .host, txph := .csAssert }) ∧
    (s.csIn = true → s.cfg.busFreeTimeoutPolls ≤ s.hostPolls + 1 → exec .txPoll s = .next
      { s with
        events := s.events ++ [.sendResult .busBusyTimeout]
        hostReq := ⟨false, s.hostReq.p⟩
        hostPolls := 0 }) ∧
    (s.csIn = true → s.hostPolls + 1 < s.cfg.busFreeTimeoutPolls →
      exec .txPoll s = .next { s with hostPolls := s.hostPolls + 1 })

/-- R103, R105, R107: the three micro-steps that set one output and go to the next phase. -/
def Obligations.TxMicroStepsSetOneOutput : Prop :=
  ∀ s : State, s.initDone = true → s.role = .sending →
    (s.txph = .csAssert → exec .txCsAssert s = .next { s with csOut := true, txph := .data }) ∧
    (s.txph = .clkHigh → exec .txClkHigh s = .next { s with clkOut := true, txph := .clkLow }) ∧
    (s.txph = .csDeassert → exec .txCsDeassert s = .next { s with csOut := false, txph := .release })

/-- R104: `TX_DATA` drives the next bit of the frame. -/
def Obligations.TxDataDrivesTheNextBit : Prop :=
  ∀ (s : State) (h : s.txidx < s.txseq.length), s.initDone = true → s.role = .sending → s.txph = .data →
    exec .txData s = .next { s with dataOut := s.txseq[s.txidx], txph := .clkHigh }

/-- R106: `TX_CLK_LOW` counts the bit and tests for the last one. -/
def Obligations.TxClkLowCountsTheBit : Prop :=
  ∀ s : State, s.initDone = true → s.role = .sending → s.txph = .clkLow →
    (s.txidx + 1 = s.txseq.length → exec .txClkLow s = .next
      { s with clkOut := false, txidx := s.txidx + 1, txph := .csDeassert }) ∧
    (s.txidx + 1 ≠ s.txseq.length → exec .txClkLow s = .next
      { s with clkOut := false, txidx := s.txidx + 1, txph := .data })

/-- R108: `TX_RELEASE` for a host send that is retained, for one that is not, and for an internal send. -/
def Obligations.TxReleaseReturnsToReceiving : Prop :=
  ∀ s : State, s.initDone = true → s.role = .sending → s.txph = .release →
    (s.txsrc = .host → s.cfg.retainOnSend = true → s.hostReq.p ≠ sentinel → exec .txRelease s = .next
      { s with
        oe := false, role := .receiving, irqEn := true, txph := .idle
        events := s.events ++ [.sendResult .ok]
        last := s.hostReq.p, lastValid := true
        hostReq := ⟨false, s.hostReq.p⟩, hostPolls := 0 }) ∧
    (s.txsrc = .host → (s.cfg.retainOnSend = false ∨ s.hostReq.p = sentinel) → exec .txRelease s = .next
      { s with
        oe := false, role := .receiving, irqEn := true, txph := .idle
        events := s.events ++ [.sendResult .ok]
        hostReq := ⟨false, s.hostReq.p⟩, hostPolls := 0 }) ∧
    (s.txsrc = .internal → exec .txRelease s = .next
      { s with oe := false, role := .receiving, irqEn := true, txph := .idle })

/-- R110, R78: with the selector `00000` no `TICK` step exists. That the model answers `TICK_NONE`, and a `TICK` there,
by this refusal is its choice, assumption 7; and so is that the framer with nothing scheduled stays as it is there,
assumption 3. -/
def Obligations.IdleSequencerHasNoTick : Prop :=
  ∀ s : State, s.initDone = true →
    exec .tickNone s = .refused .noTickStep ∧
    (s.role = .receiving → s.hostReq.valid = false → s.txph = .idle →
      stepInput .tick s = .refused .noTickStep ∧ (s.inputs = [] → step s = .next s))

/-- R109: from `ACQUIRE` to `TX_RELEASE` only `TICK` steps change the transmit registers and the outputs, a pin step
only tracks its level and a host send only latches its request; the ticks come in the fixed order, and after exactly
`3 m + 3` of them a frame of `m` bits is out and the role is `Receiving`. -/
def Obligations.FrameRunsToCompletion : Prop :=
  (∀ (s : State) (e : Input) (t : State), s.Inv → s.initDone = true → s.role = .sending → e ≠ .tick →
    stepInput e s = .next t →
    t.role = s.role ∧ t.oe = s.oe ∧ t.irqEn = s.irqEn ∧
      t.clkOut = s.clkOut ∧ t.dataOut = s.dataOut ∧ t.csOut = s.csOut ∧
      t.txph = s.txph ∧ t.txseq = s.txseq ∧ t.txidx = s.txidx ∧ t.txsrc = s.txsrc ∧
      (∀ l v, e = .pin l v → t = s.setLevel l v) ∧
      (∀ p, e = .hostSend p → p.length ≤ 255 → t = { s with hostReq := ⟨true, p⟩, hostPolls := 0 })) ∧
  (∀ (s : State) (L : Nat), s.initDone = true → s.role = .sending → s.txph = .csAssert → s.txidx = 0 →
    s.txseq.length = 16 + 8 * L →
    (frameOps s.txseq.length).length = 3 * (16 + 8 * L) + 3 ∧
    (∀ n, ∀ h : n < (frameOps s.txseq.length).length, ∃ t,
      runInputs (List.replicate n .tick) s = .next t ∧ t.role = .sending ∧
      selected .tick t = .ok ((frameOps s.txseq.length)[n])) ∧
    (∃ t, runInputs (List.replicate (3 * (16 + 8 * L) + 3) .tick) s = .next t ∧
      t.role = .receiving ∧ t.txph = .idle ∧ t.oe = false ∧ t.irqEn = true))

/-- 41_driver.md, Properties of the sequence (the spec's inference): the output waveform of a frame, step by step,
as the three lines are driven. -/
def Obligations.OutputWaveform : Prop :=
  ∀ (s : State), s.initDone = true → s.role = .sending → s.oe = true → s.txph = .csAssert → s.txidx = 0 →
    s.txseq ≠ [] → s.clkOut = false → s.dataOut = false → s.csOut = false →
    let m := s.txseq.length
    let driven (n : Nat) (clk data cs : Bit) : Prop := ∃ t, runInputs (List.replicate n .tick) s = .next t ∧
      t.drive .clk = some clk ∧ t.drive .data = some data ∧ t.drive .cs = some cs
    driven 0 false false false ∧
    driven 1 false false true ∧
    (∀ i, ∀ h : i < s.txseq.length,
      driven (3 * i + 2) false s.txseq[i] true ∧
      driven (3 * i + 3) true s.txseq[i] true ∧
      driven (3 * i + 4) false s.txseq[i] true) ∧
    (∀ b, s.txseq.getLast? = some b → driven (3 * m + 2) false b false) ∧
    (∃ t, runInputs (List.replicate (3 * m + 3) .tick) s = .next t ∧ ∀ l, t.drive l = none)

/-- 41_driver.md and 95_test_vectors.md P1: a host send on a free bus runs to its one `SEND_RESULT(Ok)`, leaves
the request closed and the role `Receiving`, and, with `RETAIN_ON_SEND`, retains a payload that is not the
sentinel. -/
def Obligations.HostSendCompletesOnFreeBus : Prop :=
  ∀ (s : State) (p : Payload), s.Inv → s.initDone = true → s.role = .receiving → s.hostReq.valid = false →
    s.csIn = false → p.length ≤ 255 →
    ∃ t, runInputs (.hostSend p :: List.replicate (1 + (3 * (16 + 8 * p.length) + 3)) .tick) s = .next t ∧
      t.events = s.events ++ [.sendResult .ok] ∧ t.hostReq.valid = false ∧ t.role = .receiving ∧
      t.irqEn = true ∧ t.oe = false ∧ t.rxbuf = s.rxbuf ∧
      (s.cfg.retainOnSend = true → p ≠ sentinel → t.last = p ∧ t.lastValid = true) ∧
      ((s.cfg.retainOnSend = false ∨ p = sentinel) → t.last = s.last ∧ t.lastValid = s.lastValid)

/-- R152 with R100 and R101: `BusBusyTimeout` comes only from a `TX_POLL` of a host send that finds CS active at the
bound, and a send that times out leaves the framer as it was, but for the event, the poll count 0 and the unread
payload that the closed request keeps, which is the model's choice, assumption 2. -/
def Obligations.BusBusyTimeoutLeavesNoTrace : Prop :=
  (∀ (s : State) (e : Input) (t : State), stepInput e s = .next t →
    t.events = s.events ++ [.sendResult .busBusyTimeout] →
    e = .tick ∧ s.role = .receiving ∧ s.hostReq.valid = true ∧ s.csIn = true ∧
      s.cfg.busFreeTimeoutPolls ≤ s.hostPolls + 1) ∧
  (∀ (s : State) (p : Payload), s.cfg.Valid → s.initDone = true → s.role = .receiving → s.txph = .idle →
    s.hostReq.valid = false → s.csIn = true → p.length ≤ 255 →
    runInputs (.hostSend p :: List.replicate s.cfg.busFreeTimeoutPolls .tick) s = .next
      { s with
        events := s.events ++ [.sendResult .busBusyTimeout]
        hostReq := ⟨false, p⟩
        hostPolls := 0 })

/-! ### Bit Sampler -/

/-- R121: a handled CS rising edge clears the buffer. -/
def Obligations.CsRiseClearsTheBuffer : Prop :=
  ∀ s : State, s.initDone = true → s.irqEn = true → s.csIn = false →
    exec .evCsRise s = .next { s with csIn := true, rxbuf := [] }

/-- R122: a handled Clock rising edge samples Data while CS is active and the buffer has room. -/
def Obligations.ClockRiseSamplesData : Prop :=
  ∀ s : State, s.initDone = true → s.irqEn = true → s.clkIn = false →
    (s.csIn = true → s.rxbuf.length < s.cfg.maxBufferBits →
      exec .evClkRise s = .next { s with clkIn := true, rxbuf := s.rxbuf ++ [s.dataIn] }) ∧
    (s.csIn = true → s.cfg.maxBufferBits ≤ s.rxbuf.length →
      exec .evClkRise s = .next { s with clkIn := true }) ∧
    (s.csIn = false → exec .evClkRiseIdle s = .next { s with clkIn := true })

/-- R124, R125: a Clock falling edge and a Data step, whatever `IRQ_EN` is, track the level and do nothing else. -/
def Obligations.ClockFallAndDataOnlyTrack : Prop :=
  ∀ s : State, s.initDone = true →
    (s.irqEn = true → s.clkIn = true → exec .evClkFall s = .next { s with clkIn := false }) ∧
    (∀ v, exec (.evData v) s = .next { s with dataIn := v })

/-- R120: every pin step completes and writes the level of its line, and only of its line; a masked edge, a step
without a transition and a Data step do nothing else. -/
def Obligations.PinStepsTrackLevels : Prop :=
  (∀ (s : State) (l : Line) (v : Bit), s.initDone = true → s.last.length ≤ 255 →
    ∃ t, stepInput (.pin l v) s = .next t ∧ t.level l = v ∧ (∀ m, m ≠ l → t.level m = s.level m) ∧
      (s.irqEn = false ∨ s.level l = v ∨ l = .data → t = s.setLevel l v)) ∧
  (∀ (s : State) (l : Line) (v : Bit), s.initDone = true → l ≠ .data →
    (s.irqEn = false → exec (.evMasked l v) s = .next (s.setLevel l v)) ∧
    (s.irqEn = true → s.level l = false → exec (.evSteadyLow l) s = .next s) ∧
    (s.irqEn = true → s.level l = true → exec (.evSteadyHigh l) s = .next s))

/-- R123, R132: a handled CS falling edge hands the buffer over, clears it and performs exactly one arm of the
dispatch, all in one step. -/
def Obligations.CsFallDispatchesTheFrame : Prop :=
  ∀ s : State, s.initDone = true → s.irqEn = true → s.csIn = true → s.last.length ≤ 255 →
    let t : State := { s with csIn := false, rxbuf := [] }
    (s.rxbuf = [] → exec .evCsFall s = .next t) ∧
    (s.rxbuf ≠ [] →
      (frameDecode s.rxbuf = .error .incompleteFrame ∨ ∃ m, frameDecode s.rxbuf = .ok m ∧ m.valid = false) →
      exec .evCsFall s = .next (t.acquire sentinelFrame .internal)) ∧
    (∀ m, frameDecode s.rxbuf = .ok m → m.valid = true → m.payload = sentinel →
      (s.lastValid = true → exec .evCsFall s = .next (t.acquire (frameBits s.last) .internal)) ∧
      (s.lastValid = false → exec .evCsFall s = .next t)) ∧
    (∀ m, frameDecode s.rxbuf = .ok m → m.valid = true → m.payload ≠ sentinel →
      exec .evCsFall s = .next
        { t with last := m.payload, lastValid := true, events := s.events ++ [.onMessage m.payload] })

/-- 42_sampler.md, Properties of the sampler (the spec's inference): what the sampler captures of a peer's
transmission is its first `MAX_BUFFER_BITS` bits, and that is what the CS falling edge hands over. -/
def Obligations.SamplerCapturesTheTransmission : Prop :=
  ∀ (s : State) (q : BitSeq), s.listening →
    ∃ t, runInputs ((wireInputs q).dropLast) s = .next t ∧
      t = { s with csIn := true, clkIn := false, dataIn := q.getLast?.getD s.dataIn,
                   rxbuf := q.take s.cfg.maxBufferBits } ∧
      runInputs (wireInputs q) s = stepInput (.pin .cs false) t

/-- 60_exceptions.md section 2: an edge that arrives while the handlers are masked is lost; any run of pin steps then
leaves nothing but the levels. -/
def Obligations.MaskedEdgesLeaveOnlyLevels : Prop :=
  ∀ (s : State) (es : List Input), s.initDone = true → s.irqEn = false →
    (∀ e ∈ es, ∃ l v, e = .pin l v) →
    ∃ t, runInputs es s = .next t ∧ t = { s with csIn := t.csIn, clkIn := t.clkIn, dataIn := t.dataIn }

/-- 42_sampler.md, Properties of the sampler: no pin step but a handled CS falling edge writes an output register, the
output enable or a transmit register. -/
def Obligations.EdgeHandlersDoNotDrive : Prop :=
  ∀ (s : State) (l : Line) (v : Bit) (t : State), stepInput (.pin l v) s = .next t →
    ¬(l = .cs ∧ v = false ∧ s.csIn = true ∧ s.irqEn = true) →
    t.oe = s.oe ∧ t.clkOut = s.clkOut ∧ t.dataOut = s.dataOut ∧ t.csOut = s.csOut ∧ t.role = s.role ∧
      t.irqEn = s.irqEn ∧ t.txph = s.txph ∧ t.txseq = s.txseq ∧ t.txidx = s.txidx ∧ t.txsrc = s.txsrc ∧
      t.events = s.events

/-! ### Link State Machine -/

/-- R133, R137: `FD_EMPTY` and `FD_RESEND_NONE` do nothing. -/
def Obligations.EmptyAndUnansweredArmsDoNothing : Prop :=
  ∀ s : State, s.initDone = true → s.atFrameEnd = true →
    exec .fdEmpty s = .next s ∧ (s.lastValid = false → exec .fdResendNone s = .next s)

/-- R134: `FD_ERROR_REPLY`, after an incomplete frame and after a mismatch, takes the bus with the sentinel frame in
the same step; 171 ticks later the one frame is out, the role is `Receiving`, and no event was emitted, `LAST` not
written, a waiting host send untouched. -/
def Obligations.ErrorReplySendsOneSentinelFrame : Prop :=
  ∀ s : State, s.initDone = true → s.atFrameEnd = true →
    let t : State :=
      { s with
        irqEn := false, role := .sending, oe := true, clkOut := false, csOut := false, dataOut := false
        txseq := sentinelFrame, txidx := 0, txsrc := .internal, txph := .csAssert }
    exec .fdErrorReplyIncomplete s = .next t ∧ exec .fdErrorReplyMismatch s = .next t ∧
    ∃ u, runInputs (List.replicate 171 .tick) t = .next u ∧ u.role = .receiving ∧ u.txph = .idle ∧
      u.events = s.events ∧ u.last = s.last ∧ u.lastValid = s.lastValid ∧ u.hostReq = s.hostReq ∧
      u.hostPolls = s.hostPolls

/-- R135: `FD_DELIVER(p)` retains the payload and emits one `ON_MESSAGE(p)`. -/
def Obligations.DeliverRetainsAndNotifies : Prop :=
  ∀ (s : State) (p : Payload), s.initDone = true → s.atFrameEnd = true → p.length ≤ 255 → p ≠ sentinel →
    exec (.fdDeliver p) s = .next
      { s with last := p, lastValid := true, events := s.events ++ [.onMessage p] }

/-- R136: `FD_RESEND` takes the bus with the frame of the retained payload, which it does not change. -/
def Obligations.ResendSendsTheRetainedPayload : Prop :=
  ∀ s : State, s.initDone = true → s.atFrameEnd = true → s.lastValid = true → s.last.length ≤ 255 →
    exec .fdResend s = .next
      { s with
        irqEn := false, role := .sending, oe := true, clkOut := false, csOut := false, dataOut := false
        txseq := frameBits s.last, txidx := 0, txsrc := .internal, txph := .csAssert }

/-- The model's choice, assumption 11: the rows of the two fixed frames (30_encoding.md section 2) are the dispatch
on that completed frame: the empty payload is delivered, the sentinel resends or does nothing. -/
def Obligations.FixedFrameRowsAreTheirDispatch : Prop :=
  ∀ s : State, s.initDone = true → s.atFrameEnd = true → s.last.length ≤ 255 →
    exec .frameEmpty s = .next { s with last := [], lastValid := true, events := s.events ++ [.onMessage []] } ∧
    (s.lastValid = true → exec .frameSentinel s = .next (s.acquire (frameBits s.last) .internal)) ∧
    (s.lastValid = false → exec .frameSentinel s = .next s)

/-- R79: the places of the selector `Q`, where their value is defined; and the arm that `FRAME_DONE` performs is the
arm of the one row whose pattern matches `Q`, with the decoded payload as `FD_DELIVER`'s operand. -/
def Obligations.DispatchFollowsTheSelector : Prop :=
  ∀ (s : State) (b : BitSeq), s.initDone = true → s.atFrameEnd = true →
    let q := fdSelector b s.lastValid
    q < 32 ∧ (q.testBit 4 = true ↔ 0 < b.length) ∧
    (b ≠ [] → (q.testBit 3 = true ↔ ∃ m, frameDecode b = .ok m)) ∧
    (∀ m, frameDecode b = .ok m → q.testBit 2 = m.valid ∧ (q.testBit 1 = true ↔ m.payload = sentinel)) ∧
    q.testBit 0 = s.lastValid ∧
    ∃ (r : Row) (i : Instr), findRow .fd 5 (fdSelector b s.lastValid) = some r ∧
      (tableRows.filter (·.matchesWord .fd 5 (fdSelector b s.lastValid))).length = 1 ∧
      i.op = r.op ∧ i.wf = true ∧ exec i s = frameDone b s ∧
      (∀ p, i = .fdDeliver p → ∃ m, frameDecode b = .ok m ∧ m.payload = p)

/-- R131: the transitions of the Link State Machine are exactly these: to `Sending` from a poll that finds the bus
free, from an error reply and from a resend; to `Receiving` from `TX_RELEASE`. -/
def Obligations.RoleTransitionsAreExactlyThese : Prop :=
  ∀ (s : State) (e : Input) (t : State), s.Inv → s.initDone = true → stepInput e s = .next t →
    (s.role = .receiving → (t.role = .sending ↔
      (e = .tick ∧ s.hostReq.valid = true ∧ s.csIn = false) ∨
      (e = .pin .cs false ∧ s.csIn = true ∧
        (isMalformed s.rxbuf = true ∨
          (isValid s.rxbuf = true ∧ isSentinel s.rxbuf = true ∧ s.lastValid = true))))) ∧
    (s.role = .sending → (t.role = .receiving ↔ e = .tick ∧ s.txph = .release))

/-- R139: a host send that waits while an internal send goes out, an error reply or a resend, keeps its payload and
its poll count at every tick of that frame, and polling resumes after the release. -/
def Obligations.WaitingHostSendSurvivesInternalSend : Prop :=
  ∀ s : State, s.Inv → s.initDone = true → s.role = .receiving → s.hostReq.valid = true → s.csIn = true →
    let survives (q : BitSeq) : Prop :=
      (∀ n ≤ 3 * q.length + 3, ∃ t,
        runInputs (.pin .cs false :: List.replicate n .tick) s = .next t ∧
        t.hostReq = s.hostReq ∧ t.hostPolls = s.hostPolls ∧ t.events = s.events ∧
        (n < 3 * q.length + 3 → t.role = .sending ∧ t.txsrc = .internal ∧ t.txseq = q)) ∧
      (∃ u, runInputs (.pin .cs false :: List.replicate (3 * q.length + 3) .tick) s = .next u ∧
        u.role = .receiving ∧ selected .tick u = .ok .txPoll)
    (isMalformed s.rxbuf = true → survives sentinelFrame) ∧
    (isValid s.rxbuf = true → isSentinel s.rxbuf = true → s.lastValid = true → survives (frameBits s.last))

/-- 42_sampler.md and 43_link_fsm.md, 95_test_vectors.md P2: a valid frame of a payload other than the sentinel,
clocked in by the peer and fitting the buffer, is delivered exactly once and retained. -/
def Obligations.ReceivedFrameIsDelivered : Prop :=
  ∀ (s : State) (p : Payload), s.listening → framesFit s.cfg p → p.length ≤ 255 → p ≠ sentinel →
    ∃ t, runInputs (wireInputs (frameBits p)) s = .next t ∧ t.role = .receiving ∧ t.rxbuf = [] ∧
      t.last = p ∧ t.lastValid = true ∧ t.events = s.events ++ [.onMessage p]

/-- 43_link_fsm.md, Arbitration and recovery (the spec's inference): whatever the peer clocks in, if what is captured
is malformed, exactly one sentinel frame goes out before the role is `Receiving` again, with no event. -/
def Obligations.CorruptedFrameElicitsOneErrorFrame : Prop :=
  ∀ (s : State) (q : BitSeq), s.listening → isMalformed (q.take s.cfg.maxBufferBits) = true →
    (∃ t, runInputs (wireInputs q) s = .next t ∧ t.role = .sending ∧ t.txseq = sentinelFrame ∧
      t.txsrc = .internal ∧ t.txph = .csAssert ∧ t.txidx = 0) ∧
    (∀ n < 171, ∃ t, runInputs (wireInputs q ++ List.replicate n .tick) s = .next t ∧ t.role = .sending ∧
      t.txseq = sentinelFrame) ∧
    (∃ t, runInputs (wireInputs q ++ List.replicate 171 .tick) s = .next t ∧ t.role = .receiving ∧
      t.events = s.events ∧ t.last = s.last ∧ t.lastValid = s.lastValid)

/-- 43_link_fsm.md, Arbitration and recovery (the spec's inference): with `RETAIN_ON_SEND`, after sending `A` each
valid `"ERROR"` received causes exactly one resend of `A`, and `A` stays retained, so after any number of them the
next one causes one more resend. -/
def Obligations.EachErrorResendsTheSentPayload : Prop :=
  ∀ (s : State) (a : Payload), s.listening → s.cfg.retainOnSend = true → framesFit s.cfg sentinel →
    s.hostReq.valid = false → a.length ≤ 255 → a ≠ sentinel →
    let sent : List Input := .hostSend a :: List.replicate (1 + (3 * (16 + 8 * a.length) + 3)) .tick
    let resent : List Input := wireInputs sentinelFrame ++ List.replicate (3 * (16 + 8 * a.length) + 3) .tick
    ∀ n : Nat,
      (∃ t, runInputs (sent ++ (List.replicate n resent).flatten) s = .next t ∧ t.role = .receiving ∧
        t.last = a ∧ t.lastValid = true ∧ t.events = s.events ++ [.sendResult .ok]) ∧
      (∃ t, runInputs (sent ++ (List.replicate n resent).flatten ++ wireInputs sentinelFrame) s = .next t ∧
        t.role = .sending ∧ t.txseq = frameBits a ∧ t.txsrc = .internal ∧ t.txph = .csAssert ∧ t.txidx = 0 ∧
        t.last = a ∧ t.events = s.events ++ [.sendResult .ok])

/-- 70_reset_and_hazards.md section 3 (the spec's inference): a frame longer than the receiver's buffer is never
delivered; it is answered with the sentinel frame. -/
def Obligations.OversizeFrameIsAnsweredWithError : Prop :=
  ∀ (s : State) (p : Payload), s.listening → s.cfg.Valid → p.length ≤ 255 → ¬framesFit s.cfg p →
    ∃ t, runInputs (wireInputs (frameBits p)) s = .next t ∧ t.role = .sending ∧ t.txseq = sentinelFrame ∧
      t.txsrc = .internal ∧ t.events = s.events ∧ t.last = s.last

/-- 10_state.md section 3: `LAST` is written by a delivery and by `TX_RELEASE` of a host send under
`RETAIN_ON_SEND`, and by nothing else. -/
def Obligations.LastIsWrittenOnlyByDeliveryAndRelease : Prop :=
  ∀ (s : State) (e : Input) (t : State), s.initDone = true → stepInput e s = .next t →
    (t.last ≠ s.last ∨ t.lastValid ≠ s.lastValid) →
    (e = .pin .cs false ∧ t.events = s.events ++ [.onMessage t.last] ∧ t.lastValid = true) ∨
    (e = .tick ∧ s.txph = .release ∧ s.txsrc = .host ∧ s.cfg.retainOnSend = true ∧ t.last = s.hostReq.p ∧
      t.last ≠ sentinel ∧ t.lastValid = true)

/-- 93_implementation_defined.md U2: `LAST` while `LAST_VALID = 0`, `HOST_REQ.p` while the request is not valid, and
`TXSEQ`, `TXIDX`, `TXSRC` while idle are never read: changing them changes no step but for carrying the changed
value along where it is not overwritten. -/
def Obligations.UnspecifiedRegistersAreNeverRead : Prop :=
  (∀ (s : State) (e : Input) (t : State) (q : Payload), s.initDone = true → s.lastValid = false →
    stepInput e s = .next t →
    stepInput e { s with last := q } = .next { t with last := if t.lastValid then t.last else q }) ∧
  (∀ (s : State) (e : Input) (t : State) (q : Payload), s.Inv → s.initDone = true →
    s.hostReq.valid = false → stepInput e s = .next t →
    stepInput e { s with hostReq := ⟨false, q⟩ } =
      .next { t with hostReq := if t.hostReq.valid then t.hostReq else ⟨false, q⟩ }) ∧
  (∀ (s : State) (e : Input) (t : State) (q : BitSeq) (n : Nat) (c : Source), s.initDone = true →
    s.role = .receiving → s.txph = .idle → stepInput e s = .next t →
    stepInput e { s with txseq := q, txidx := n, txsrc := c } =
      .next (if t.txph = .idle then { t with txseq := q, txidx := n, txsrc := c } else t))

/-! ### Selection, encoding, the step -/

/-- R77: every pin step of every state selects exactly one row, by the line, `IRQ_EN`, `CS_IN`, the tracked level
and the new level. -/
def Obligations.PinStepSelectsOneOperation : Prop :=
  ∀ (l : Line) (v : Bit) (s : State),
    (tableRows.filter (·.matchesWord .pin 6 (pinSelector l v s))).length = 1 ∧
    selected (.pin l v) s = .ok
      (if l = .data then .evData v
       else if s.irqEn = false then .evMasked l v
       else if s.level l = v then (if v then .evSteadyHigh l else .evSteadyLow l)
       else if l = .cs then (if v then .evCsRise else .evCsFall)
       else if v then (if s.csIn then .evClkRise else .evClkRiseIdle)
       else .evClkFall)

/-- R78: the operation of a `TICK` in every state whose role and phase agree (R36 (a)); with the vector `00000` no
`TICK` step is enabled. -/
def Obligations.TickSelectsThePhasesOperation : Prop :=
  ∀ s : State, (s.role = .receiving ↔ s.txph = .idle) →
    (s.txph = .idle → s.hostReq.valid = false → ∀ t, stepInput .tick s ≠ .next t) ∧
    selected .tick s = .ok
      (match s.txph with
       | .idle => if s.hostReq.valid then .txPoll else .tickNone
       | .csAssert => .txCsAssert
       | .data => .txData
       | .clkHigh => .txClkHigh
       | .clkLow => .txClkLow
       | .csDeassert => .txCsDeassert
       | .release => .txRelease)

/-- The step (R20, R21): it consumes the next input and is exec of the operation whose word that input and the state
give; with nothing scheduled the input is a `TICK` where R110 enables one, and where it does not the framer stays as
it is (assumption 3); a word without an operation is refused. -/
def Obligations.StepRunsTheSelectedOperation : Prop :=
  (∀ s : State, s.popInput = { s with inputs := s.inputs.tail } ∧
    (∀ e es, s.inputs = e :: es → s.nextInput = some e) ∧
    (s.inputs = [] → s.initDone = true →
      (s.role = .sending ∨ s.hostReq.valid = true → s.nextInput = some .tick) ∧
      (s.role = .receiving → s.hostReq.valid = false → s.nextInput = none)) ∧
    (s.inputs = [] → s.initDone = false → s.nextInput = none)) ∧
  (∀ (s : State) (e : Input) (i : Instr), s.nextInput = some e → (∀ w, e ≠ .call w) →
    decode (inputWord e s.popInput) = .ok i → step s = exec i s.popInput) ∧
  (∀ (s : State) (w : OpWord) (i : Instr), s.nextInput = some (.call w) → decode w = .ok i → callable i = true →
    step s = exec i s.popInput) ∧
  (∀ (s : State) (e : Input) (r : DecodeReject), s.nextInput = some e → selected e s.popInput = .error r →
    step s = .refused (.noOperation r)) ∧
  (∀ s : State, s.nextInput = none → step s = .next s)

/-- Decoding the word of a well-formed operation gives it back, every operand at every value; and whatever the
decoder reads from a word is well formed and is read again from its own word. -/
def Obligations.DecodeEncodeAgree : Prop :=
  (∀ i : Instr, i.wf = true → decode (encode i) = .ok i) ∧
  (∀ (w : OpWord) (i : Instr), decode w = .ok i → i.wf = true ∧ decode (encode i) = .ok i)

/-- No two rows of the operation table match one word of a format. -/
def Obligations.TableRowsAreDisjoint : Prop :=
  ∀ r ∈ tableRows, ∀ r' ∈ tableRows, ∀ (f : Format) (n v : Nat),
    r.matchesWord f n v = true → r'.matchesWord f n v = true → r = r'

/-- Words written out from 30_encoding.md section 3, one or more for each format. -/
def Obligations.TableWordsDecode : Prop :=
  decode ⟨.host, 1, 0b0, .levels true false true⟩ = .ok (.hostInit true false true) ∧
  decode ⟨.host, 1, 0b1, .payload [0x41]⟩ = .ok (.hostSend [0x41]) ∧
  decode ⟨.tick, 5, 0b01000, .none⟩ = .ok .txPoll ∧
  decode ⟨.tick, 5, 0b11101, .none⟩ = .ok .txCsDeassert ∧
  decode ⟨.pin, 6, 0b001110, .none⟩ = .ok .evCsFall ∧
  decode ⟨.pin, 6, 0b010101, .none⟩ = .ok (.evMasked .clk true) ∧
  decode ⟨.pin, 6, 0b100001, .none⟩ = .ok (.evData true) ∧
  decode ⟨.pin, 6, 0b110000, .none⟩ = .error .noSuchLine ∧
  decode ⟨.fd, 5, 0b11010, .none⟩ = .ok .fdErrorReplyMismatch ∧
  decode ⟨.fd, 5, 0b11111, .none⟩ = .ok .fdResend ∧
  decode ⟨.func, 2, 0b10, .bits [true]⟩ = .ok (.decode [true]) ∧
  decode ⟨.func, 2, 0b11, .none⟩ = .error .functionUnused ∧
  decode ⟨.frame, 56, 0b00000101010001010101001001010010010011110101001010001010, .none⟩ = .ok .frameSentinel

/-! ### The whole machine -/

/-- The invariant holds right after reset. -/
def Obligations.InvariantHoldsAtReset : Prop := State.reset.Inv

/-- Every step from every state keeps the invariant: R36 (a) to (f), the configuration's ranges, the sequencer's
place in its frame and what it drives there, what is in flight. -/
def Obligations.StepKeepsInvariant : Prop :=
  ∀ s t : State, s.Inv → step s = .next t → t.Inv

/-- 10_state.md section 5 (the spec's inference): every state a run from `HOST_INIT` reaches, by any steps in any
order, meets (a) to (f). -/
def Obligations.ReachableStatesMeetSpecInvariants : Prop :=
  ∀ s : State, Reachable s → s.SpecInvariants

/-- 60_exceptions.md section 1 and 41_driver.md: no step from a state that meets the invariant faults; after
`HOST_INIT` a pin step always completes, a `TICK` while a frame is in flight or a host send waits, and a host send
when none is outstanding: no error halts the machine or disables a step. With nothing scheduled the machine always
goes on (assumption 3). -/
def Obligations.NoErrorStopsTheMachine : Prop :=
  ∀ (s : State) (e : Input), s.Inv →
    (∀ f, stepInput e s ≠ .fault f) ∧
    (s.initDone = true → (∀ l v, e = .pin l v → ∃ t, stepInput e s = .next t) ∧
      (e = .tick → s.role = .sending ∨ s.hostReq.valid = true → ∃ t, stepInput e s = .next t) ∧
      (∀ p, e = .hostSend p → s.hostReq.valid = false → ∃ t, stepInput e s = .next t)) ∧
    (s.inputs = [] → ∃ t, step s = .next t)

/-- 00_scope.md section 4: "none of them changes while the machine runs"; no step writes the schedule of others or
takes an event back. -/
def Obligations.ParametersNeverChange : Prop :=
  ∀ (s : State) (e : Input) (t : State), stepInput e s = .next t →
    t.cfg = s.cfg ∧ t.inputs = s.inputs ∧ (t.events = s.events ∨ ∃ x, t.events = s.events ++ [x])

/-! ### Two framers, time -/

/-- 20_memory.md section 5: the level of a line: undriven 0, one driver wins, two agreeing drivers give their value,
and of two disagreeing drivers nothing is known but the free value. A framer drives a line exactly while it is
initialised with `OE = 1`, with its output register. -/
def Obligations.LineLevelOfTwoDrivers : Prop :=
  (∀ free : Bit, lineLevel free none none = false ∧
    (∀ v, lineLevel free (some v) none = v ∧ lineLevel free none (some v) = v ∧
      lineLevel free (some v) (some v) = v ∧ lineLevel free (some v) (some !v) = free)) ∧
  (∀ (s : State) (l : Line), (s.drive l = none ↔ s.initDone = false ∨ s.oe = false) ∧
    (s.initDone = true → s.oe = true → s.drive .cs = some s.csOut ∧ s.drive .clk = some s.clkOut ∧
      s.drive .data = some s.dataOut))

/-- 95_test_vectors.md P7, by the composition of 20_memory.md section 5: on two framers just reset, a payload that
fits the other's buffer and is not the sentinel is delivered to the other's host once, and the sender's host is
told `Ok`. -/
def Obligations.CleanExchangeBetweenTwoFramers : Prop :=
  ∀ (ca cb : Config) (p : Payload), p.length ≤ 255 → p ≠ sentinel → framesFit cb p →
    ∃ (n : Nat) (k : Link),
      (Link.start ca cb
        (.send .a p :: List.replicate (1 + (3 * (16 + 8 * p.length) + 3)) (.tick .a))).run n = .next k ∧
      k.pins = [] ∧ k.moves = [] ∧
      k.a.events = [.sendResult .ok] ∧ k.b.events = [.onMessage p] ∧
      k.a.role = .receiving ∧ k.b.role = .receiving ∧ k.b.last = p ∧ k.b.lastValid = true ∧
      k.a.rxbuf = [] ∧ k.b.rxbuf = []

/-- 70_reset_and_hazards.md section 3 and 95_test_vectors.md P8 (b): two framers that send payloads of one length and
take turns both report `Ok`, and neither message is delivered, whatever the free levels of the contended lines. -/
def Obligations.CollisionLosesBothMessages : Prop :=
  ∀ (ca cb : Config) (p q : Payload), p.length ≤ 255 → q.length = p.length →
    ∃ (n : Nat) (k : Link),
      (Link.start ca cb (.send .a p :: .send .b q ::
        (List.replicate (1 + (3 * (16 + 8 * p.length) + 3)) [Move.tick .a, Move.tick .b]).flatten)).run n
          = .next k ∧
      k.pins = [] ∧ k.moves = [] ∧
      k.a.events = [.sendResult .ok] ∧ k.b.events = [.sendResult .ok] ∧
      k.a.role = .receiving ∧ k.b.role = .receiving

/-- 70_reset_and_hazards.md section 4 (the spec's inference): the named waits of a frame's micro-steps before CS falls
add up to `CS_SETTLE + 2 * BIT_PERIOD * (16 + 8 L)`; from the fall of CS on the spec names none, which is not a wait of
zero (R203; the model's form, assumption 21). -/
def Obligations.FrameDwellIsCsActiveTime : Prop :=
  ∀ (c : Config) (L : Nat),
    dwellOf c ((frameOps (16 + 8 * L)).takeWhile (· ≠ .txCsDeassert)) = c.csSettle + 2 * c.bitPeriod * (16 + 8 * L) ∧
    (∀ i ∈ (frameOps (16 + 8 * L)).dropWhile (· ≠ .txCsDeassert), dwellAfter c i = none)

/-! ### Added after the first review -/

/-- R110: a `TICK` step is enabled exactly while a frame is in flight or a host send waits; when neither holds the
framer moves only on host and pin steps. -/
def Obligations.TickIsEnabledExactlyWithWork : Prop :=
  ∀ s : State, s.Inv → s.initDone = true →
    ((∃ t, stepInput .tick s = .next t) ↔ s.role = .sending ∨ (s.role = .receiving ∧ s.hostReq.valid = true)) ∧
    (s.role = .receiving → s.hostReq.valid = false → ∀ e t, (∀ w, e ≠ .call w) → stepInput e s = .next t →
      (∃ p, e = .hostSend p) ∨ (∃ l v, e = .pin l v))

/-- 40_codec.md, Laws (the spec's inference) and 95_test_vectors.md part 2: flipping a 1 of the length field to 0
gives a frame of the first payload bytes, whose checksum field is the payload byte that follows them: valid exactly
when that byte happens to be their checksum, so such a flip can go undetected. -/
def Obligations.ShrinkingLengthFlipDecodesAPrefix : Prop :=
  ∀ (p : Payload) (q : BitSeq) (i : Nat), frameEncode p = some q → i < 8 → q[i]? = some true →
    ∃ L, ∃ h : L < p.length, L + 2 ^ (7 - i) = p.length ∧
      frameDecode (q.modify i (!·)) =
        .ok { length := L, payload := p.take L, checksum := p[L], valid := p[L] == checksum (p.take L) }
end

