-- ==== Sys2Proof/Laws/Codec.lean ====
section
/-! SUPPORT. Lemmas about byte fields, frames and their parts. -/

namespace Sys2Proof.Machine

@[simp] theorem length_msb8 (v : Byte) : (msb8 v).length = 8 := rfl

set_option maxRecDepth 100000 in
/-- `val8(msb8(v)) = v` for the 256 bytes. -/
theorem val8_msb8_fin : ∀ n : Fin 256, val8 (msb8 (BitVec.ofFin n)) = BitVec.ofFin n := by decide

/-- `val8(msb8(v)) = v` (00_scope.md section 5). -/
@[simp] theorem val8_msb8 (v : Byte) : val8 (msb8 v) = v := val8_msb8_fin v.toFin

/-- `msb8(val8(s)) = s` for eight bits (00_scope.md section 5). -/
theorem msb8_val8 {s : BitSeq} (h : s.length = 8) : msb8 (val8 s) = s := by
  match s, h with
  | [a, b, c, d, e, f, g, i], _ =>
    revert a b c d e f g i
    decide

/-- The number of a bit sequence, bit by bit (00_scope.md section 5). -/
theorem bitsToNat_eight (a b c d e f g i : Bit) :
    bitsToNat [a, b, c, d, e, f, g, i] =
      a.toNat * 128 + b.toNat * 64 + c.toNat * 32 + d.toNat * 16 + e.toNat * 8 + f.toNat * 4 + g.toNat * 2
        + i.toNat := by
  revert a b c d e f g i
  decide

@[simp] theorem length_flatMap_msb8 (p : Payload) : (p.flatMap msb8).length = 8 * p.length := by
  induction p with
  | nil => rfl
  | cons b p ih => simp only [List.flatMap_cons, List.length_append, length_msb8, ih, List.length_cons]; omega

@[simp] theorem length_frameBits (p : Payload) : (frameBits p).length = 16 + 8 * p.length := by
  simp only [frameBits, List.length_append, length_msb8, length_flatMap_msb8]; omega

theorem frameEncode_fits {p : Payload} (h : p.length ≤ maxPayload) : frameEncode p = some (frameBits p) :=
  if_pos h

theorem frameEncode_long {p : Payload} (h : maxPayload < p.length) : frameEncode p = none :=
  if_neg (by omega)

theorem frameEncode_eq_some {p : Payload} {s : BitSeq} (h : frameEncode p = some s) :
    p.length ≤ maxPayload ∧ s = frameBits p := by
  unfold frameEncode at h
  split at h
  · exact ⟨‹_›, (Option.some.inj h).symm⟩
  · cases h

/-- A slice that starts after a first part reads the second part alone. -/
theorem slice_append_right (x y : BitSeq) (n : Nat) : slice (x ++ y) x.length n = slice y 0 n := by
  simp [slice]

/-- A byte field of a first part does not see what follows. -/
theorem byteAt_append_left {x : BitSeq} {i : Nat} (h : i + 8 ≤ x.length) (y : BitSeq) :
    byteAt (x ++ y) i = byteAt x i := by
  have hi : i ≤ x.length := by omega
  simp only [byteAt, slice, List.drop_append_of_le_length hi]
  rw [List.take_append_of_le_length (by simp; omega)]

/-- A byte field after a first part is read in the second part. -/
theorem byteAt_append_right (x y : BitSeq) (i : Nat) : byteAt (x ++ y) (x.length + i) = byteAt y i := by
  have h : (x ++ y).drop (x.length + i) = y.drop i := by rw [← List.drop_drop, List.drop_left]
  simp only [byteAt, slice, h]

@[simp] theorem byteAt_msb8_append (v : Byte) (y : BitSeq) : byteAt (msb8 v ++ y) 0 = v := by
  rw [byteAt_append_left (by simp)]
  exact val8_msb8 v

/-- Byte `i` of a run of byte fields. -/
theorem byteAt_flatMap_msb8 (p : Payload) (y : BitSeq) (i : Nat) (h : i < p.length) :
    byteAt (p.flatMap msb8 ++ y) (8 * i) = p[i] := by
  induction p generalizing i with
  | nil => cases h
  | cons b p ih =>
    cases i with
    | zero => simp [List.append_assoc]
    | succ i =>
      have hb : 8 * (i + 1) = (msb8 b).length + 8 * i := by simp; omega
      rw [List.flatMap_cons, List.append_assoc, hb, byteAt_append_right]
      exact ih i (by simpa using h)

/-- The checksum of a payload, started at any byte. -/
theorem foldl_add_toNat (p : Payload) (c : Byte) :
    (p.foldl (fun c b => c + b) c).toNat = (c.toNat + (p.map BitVec.toNat).sum) % 256 := by
  induction p generalizing c with
  | nil => simp only [List.foldl_nil, List.map_nil, List.sum_nil, Nat.add_zero]; omega
  | cons b p ih =>
    simp only [List.foldl_cons, ih, BitVec.toNat_add, List.map_cons, List.sum_cons]
    omega

@[simp] theorem length_payloadOf (b : BitSeq) (L : Nat) : (payloadOf b L).length = L := by
  simp [payloadOf]

/-- What `DECODE` can return: nothing of a sequence shorter than its length field says, else its fields. -/
theorem frameDecode_cases (b : BitSeq) :
    (frameDecode b = .error .incompleteFrame ∧ (b.length < 8 ∨ b.length < frameLength (byteAt b 0).toNat)) ∨
      (frameDecode b =
          .ok { length := (byteAt b 0).toNat
                payload := payloadOf b (byteAt b 0).toNat
                checksum := byteAt b (8 + 8 * (byteAt b 0).toNat)
                valid := byteAt b (8 + 8 * (byteAt b 0).toNat) == checksum (payloadOf b (byteAt b 0).toNat) } ∧
        frameLength (byteAt b 0).toNat ≤ b.length) := by
  unfold frameDecode
  by_cases h8 : b.length < 8
  · exact .inl ⟨by simp [h8], .inl h8⟩
  · by_cases hL : b.length < frameLength (byteAt b 0).toNat
    · exact .inl ⟨by simp [h8, hL], .inr hL⟩
    · exact .inr ⟨by simp [h8, hL], by omega⟩

/-- A decoded payload fits a frame. -/
theorem frameDecode_payload_fits {b : BitSeq} {m : Message} (h : frameDecode b = .ok m) :
    m.payload.length ≤ maxPayload := by
  rcases frameDecode_cases b with ⟨he, -⟩ | ⟨ho, -⟩
  · rw [he] at h; cases h
  · rw [ho] at h
    cases h
    have := (byteAt b 0).isLt
    simp only [length_payloadOf, maxPayload]
    omega

@[simp] theorem length_sentinelFrame : sentinelFrame.length = 56 := rfl

@[simp] theorem length_emptyFrame : emptyFrame.length = 16 := rfl

@[simp] theorem frameEncode_sentinel : frameEncode sentinel = some (frameBits sentinel) := rfl

end Sys2Proof.Machine
end

