-- ==== Sys2Proof/Laws/Decode.lean ====
section
/-! SUPPORT. What the decoder does with a word, in one lemma each way. -/

namespace Sys2Proof

/-- A word whose selector finds a row decodes to the well-formed operation the row builds. -/
theorem decode_of_row {w : OpWord} {r : Row} {i : Instr} (hr : findRow w.format w.width w.value = some r)
    (hb : build r.op w.value w.operand = some i) (hw : i.wf = true) : decode w = .ok i := by
  simp [decode, hr, hb, hw]

/-- What a decoded word went through: a row of the table that matches it, and a well-formed operation. -/
theorem decode_ok {w : OpWord} {i : Instr} (h : decode w = .ok i) :
    ∃ r, findRow w.format w.width w.value = some r ∧ build r.op w.value w.operand = some i ∧ i.wf = true := by
  unfold decode at h
  cases hr : findRow w.format w.width w.value with
  | none => rw [hr] at h; cases h
  | some r =>
    rw [hr] at h
    simp only at h
    cases hb : build r.op w.value w.operand with
    | none => rw [hb] at h; cases h
    | some j =>
      rw [hb] at h
      simp only at h
      split at h
      · cases h; exact ⟨r, rfl, hb, ‹_›⟩
      · cases h

/-- A row that is found is a row of the table and matches. -/
theorem findRow_some {f : Format} {n v : Nat} {r : Row} (h : findRow f n v = some r) :
    r ∈ tableRows ∧ r.matchesWord f n v = true := by
  unfold findRow at h
  have hm := List.find?_some h
  exact ⟨List.mem_of_find?_eq_some h, hm⟩

/-- The row a selector is built for is the row its operation names. -/
theorem build_op {op : Op} {v : Nat} {o : Operand} {i : Instr} (h : build op v o = some i) : i.op = op := by
  cases op <;> cases o <;>
    first
    | (simp [build] at h; done)
    | (simp only [build, Option.some.injEq] at h; subst h; rfl)
    | (simp only [build, Option.map_eq_some_iff] at h; obtain ⟨l, -, rfl⟩ := h; rfl)

end Sys2Proof
end

