-- ==== Sys2Proof/Laws/State.lean ====
section
/-! SUPPORT. One lemma for each field of State under each named update. -/

namespace Sys2Proof.Machine

/-! `State.emit` -/

@[simp] theorem State.emit_initDone (s : State) (e : Event) : (s.emit e).initDone = s.initDone := rfl
@[simp] theorem State.emit_role (s : State) (e : Event) : (s.emit e).role = s.role := rfl
@[simp] theorem State.emit_irqEn (s : State) (e : Event) : (s.emit e).irqEn = s.irqEn := rfl
@[simp] theorem State.emit_oe (s : State) (e : Event) : (s.emit e).oe = s.oe := rfl
@[simp] theorem State.emit_clkOut (s : State) (e : Event) : (s.emit e).clkOut = s.clkOut := rfl
@[simp] theorem State.emit_dataOut (s : State) (e : Event) : (s.emit e).dataOut = s.dataOut := rfl
@[simp] theorem State.emit_csOut (s : State) (e : Event) : (s.emit e).csOut = s.csOut := rfl
@[simp] theorem State.emit_csIn (s : State) (e : Event) : (s.emit e).csIn = s.csIn := rfl
@[simp] theorem State.emit_clkIn (s : State) (e : Event) : (s.emit e).clkIn = s.clkIn := rfl
@[simp] theorem State.emit_dataIn (s : State) (e : Event) : (s.emit e).dataIn = s.dataIn := rfl
@[simp] theorem State.emit_rxbuf (s : State) (e : Event) : (s.emit e).rxbuf = s.rxbuf := rfl
@[simp] theorem State.emit_last (s : State) (e : Event) : (s.emit e).last = s.last := rfl
@[simp] theorem State.emit_lastValid (s : State) (e : Event) : (s.emit e).lastValid = s.lastValid := rfl
@[simp] theorem State.emit_hostReq (s : State) (e : Event) : (s.emit e).hostReq = s.hostReq := rfl
@[simp] theorem State.emit_hostPolls (s : State) (e : Event) : (s.emit e).hostPolls = s.hostPolls := rfl
@[simp] theorem State.emit_txph (s : State) (e : Event) : (s.emit e).txph = s.txph := rfl
@[simp] theorem State.emit_txseq (s : State) (e : Event) : (s.emit e).txseq = s.txseq := rfl
@[simp] theorem State.emit_txidx (s : State) (e : Event) : (s.emit e).txidx = s.txidx := rfl
@[simp] theorem State.emit_txsrc (s : State) (e : Event) : (s.emit e).txsrc = s.txsrc := rfl
@[simp] theorem State.emit_cfg (s : State) (e : Event) : (s.emit e).cfg = s.cfg := rfl
@[simp] theorem State.emit_inputs (s : State) (e : Event) : (s.emit e).inputs = s.inputs := rfl
@[simp] theorem State.emit_events (s : State) (e : Event) : (s.emit e).events = s.events ++ [e] := rfl
@[simp] theorem State.emit_fnResult (s : State) (e : Event) : (s.emit e).fnResult = s.fnResult := rfl

/-! `State.raise` -/

@[simp] theorem State.raise_initDone (s : State) (r : SendResult) : (s.raise r).initDone = s.initDone := rfl
@[simp] theorem State.raise_role (s : State) (r : SendResult) : (s.raise r).role = s.role := rfl
@[simp] theorem State.raise_irqEn (s : State) (r : SendResult) : (s.raise r).irqEn = s.irqEn := rfl
@[simp] theorem State.raise_oe (s : State) (r : SendResult) : (s.raise r).oe = s.oe := rfl
@[simp] theorem State.raise_clkOut (s : State) (r : SendResult) : (s.raise r).clkOut = s.clkOut := rfl
@[simp] theorem State.raise_dataOut (s : State) (r : SendResult) : (s.raise r).dataOut = s.dataOut := rfl
@[simp] theorem State.raise_csOut (s : State) (r : SendResult) : (s.raise r).csOut = s.csOut := rfl
@[simp] theorem State.raise_csIn (s : State) (r : SendResult) : (s.raise r).csIn = s.csIn := rfl
@[simp] theorem State.raise_clkIn (s : State) (r : SendResult) : (s.raise r).clkIn = s.clkIn := rfl
@[simp] theorem State.raise_dataIn (s : State) (r : SendResult) : (s.raise r).dataIn = s.dataIn := rfl
@[simp] theorem State.raise_rxbuf (s : State) (r : SendResult) : (s.raise r).rxbuf = s.rxbuf := rfl
@[simp] theorem State.raise_last (s : State) (r : SendResult) : (s.raise r).last = s.last := rfl
@[simp] theorem State.raise_lastValid (s : State) (r : SendResult) : (s.raise r).lastValid = s.lastValid := rfl
@[simp] theorem State.raise_hostReq (s : State) (r : SendResult) : (s.raise r).hostReq = s.hostReq := rfl
@[simp] theorem State.raise_hostPolls (s : State) (r : SendResult) : (s.raise r).hostPolls = s.hostPolls := rfl
@[simp] theorem State.raise_txph (s : State) (r : SendResult) : (s.raise r).txph = s.txph := rfl
@[simp] theorem State.raise_txseq (s : State) (r : SendResult) : (s.raise r).txseq = s.txseq := rfl
@[simp] theorem State.raise_txidx (s : State) (r : SendResult) : (s.raise r).txidx = s.txidx := rfl
@[simp] theorem State.raise_txsrc (s : State) (r : SendResult) : (s.raise r).txsrc = s.txsrc := rfl
@[simp] theorem State.raise_cfg (s : State) (r : SendResult) : (s.raise r).cfg = s.cfg := rfl
@[simp] theorem State.raise_inputs (s : State) (r : SendResult) : (s.raise r).inputs = s.inputs := rfl
@[simp] theorem State.raise_events (s : State) (r : SendResult) : (s.raise r).events = s.events ++ [.sendResult r] := rfl
@[simp] theorem State.raise_fnResult (s : State) (r : SendResult) : (s.raise r).fnResult = s.fnResult := rfl

/-! `State.clearBuffer` -/

@[simp] theorem State.clearBuffer_initDone (s : State) : (s.clearBuffer).initDone = s.initDone := rfl
@[simp] theorem State.clearBuffer_role (s : State) : (s.clearBuffer).role = s.role := rfl
@[simp] theorem State.clearBuffer_irqEn (s : State) : (s.clearBuffer).irqEn = s.irqEn := rfl
@[simp] theorem State.clearBuffer_oe (s : State) : (s.clearBuffer).oe = s.oe := rfl
@[simp] theorem State.clearBuffer_clkOut (s : State) : (s.clearBuffer).clkOut = s.clkOut := rfl
@[simp] theorem State.clearBuffer_dataOut (s : State) : (s.clearBuffer).dataOut = s.dataOut := rfl
@[simp] theorem State.clearBuffer_csOut (s : State) : (s.clearBuffer).csOut = s.csOut := rfl
@[simp] theorem State.clearBuffer_csIn (s : State) : (s.clearBuffer).csIn = s.csIn := rfl
@[simp] theorem State.clearBuffer_clkIn (s : State) : (s.clearBuffer).clkIn = s.clkIn := rfl
@[simp] theorem State.clearBuffer_dataIn (s : State) : (s.clearBuffer).dataIn = s.dataIn := rfl
@[simp] theorem State.clearBuffer_rxbuf (s : State) : (s.clearBuffer).rxbuf = [] := rfl
@[simp] theorem State.clearBuffer_last (s : State) : (s.clearBuffer).last = s.last := rfl
@[simp] theorem State.clearBuffer_lastValid (s : State) : (s.clearBuffer).lastValid = s.lastValid := rfl
@[simp] theorem State.clearBuffer_hostReq (s : State) : (s.clearBuffer).hostReq = s.hostReq := rfl
@[simp] theorem State.clearBuffer_hostPolls (s : State) : (s.clearBuffer).hostPolls = s.hostPolls := rfl
@[simp] theorem State.clearBuffer_txph (s : State) : (s.clearBuffer).txph = s.txph := rfl
@[simp] theorem State.clearBuffer_txseq (s : State) : (s.clearBuffer).txseq = s.txseq := rfl
@[simp] theorem State.clearBuffer_txidx (s : State) : (s.clearBuffer).txidx = s.txidx := rfl
@[simp] theorem State.clearBuffer_txsrc (s : State) : (s.clearBuffer).txsrc = s.txsrc := rfl
@[simp] theorem State.clearBuffer_cfg (s : State) : (s.clearBuffer).cfg = s.cfg := rfl
@[simp] theorem State.clearBuffer_inputs (s : State) : (s.clearBuffer).inputs = s.inputs := rfl
@[simp] theorem State.clearBuffer_events (s : State) : (s.clearBuffer).events = s.events := rfl
@[simp] theorem State.clearBuffer_fnResult (s : State) : (s.clearBuffer).fnResult = s.fnResult := rfl

/-! `State.acquire` -/

@[simp] theorem State.acquire_initDone (s : State) (q : BitSeq) (c : Source) : (s.acquire q c).initDone = s.initDone := rfl
@[simp] theorem State.acquire_role (s : State) (q : BitSeq) (c : Source) : (s.acquire q c).role = .sending := rfl
@[simp] theorem State.acquire_irqEn (s : State) (q : BitSeq) (c : Source) : (s.acquire q c).irqEn = false := rfl
@[simp] theorem State.acquire_oe (s : State) (q : BitSeq) (c : Source) : (s.acquire q c).oe = true := rfl
@[simp] theorem State.acquire_clkOut (s : State) (q : BitSeq) (c : Source) : (s.acquire q c).clkOut = false := rfl
@[simp] theorem State.acquire_dataOut (s : State) (q : BitSeq) (c : Source) : (s.acquire q c).dataOut = false := rfl
@[simp] theorem State.acquire_csOut (s : State) (q : BitSeq) (c : Source) : (s.acquire q c).csOut = false := rfl
@[simp] theorem State.acquire_csIn (s : State) (q : BitSeq) (c : Source) : (s.acquire q c).csIn = s.csIn := rfl
@[simp] theorem State.acquire_clkIn (s : State) (q : BitSeq) (c : Source) : (s.acquire q c).clkIn = s.clkIn := rfl
@[simp] theorem State.acquire_dataIn (s : State) (q : BitSeq) (c : Source) : (s.acquire q c).dataIn = s.dataIn := rfl
@[simp] theorem State.acquire_rxbuf (s : State) (q : BitSeq) (c : Source) : (s.acquire q c).rxbuf = s.rxbuf := rfl
@[simp] theorem State.acquire_last (s : State) (q : BitSeq) (c : Source) : (s.acquire q c).last = s.last := rfl
@[simp] theorem State.acquire_lastValid (s : State) (q : BitSeq) (c : Source) : (s.acquire q c).lastValid = s.lastValid := rfl
@[simp] theorem State.acquire_hostReq (s : State) (q : BitSeq) (c : Source) : (s.acquire q c).hostReq = s.hostReq := rfl
@[simp] theorem State.acquire_hostPolls (s : State) (q : BitSeq) (c : Source) : (s.acquire q c).hostPolls = s.hostPolls := rfl
@[simp] theorem State.acquire_txph (s : State) (q : BitSeq) (c : Source) : (s.acquire q c).txph = .csAssert := rfl
@[simp] theorem State.acquire_txseq (s : State) (q : BitSeq) (c : Source) : (s.acquire q c).txseq = q := rfl
@[simp] theorem State.acquire_txidx (s : State) (q : BitSeq) (c : Source) : (s.acquire q c).txidx = 0 := rfl
@[simp] theorem State.acquire_txsrc (s : State) (q : BitSeq) (c : Source) : (s.acquire q c).txsrc = c := rfl
@[simp] theorem State.acquire_cfg (s : State) (q : BitSeq) (c : Source) : (s.acquire q c).cfg = s.cfg := rfl
@[simp] theorem State.acquire_inputs (s : State) (q : BitSeq) (c : Source) : (s.acquire q c).inputs = s.inputs := rfl
@[simp] theorem State.acquire_events (s : State) (q : BitSeq) (c : Source) : (s.acquire q c).events = s.events := rfl
@[simp] theorem State.acquire_fnResult (s : State) (q : BitSeq) (c : Source) : (s.acquire q c).fnResult = s.fnResult := rfl

/-! `State.releaseBus` -/

@[simp] theorem State.releaseBus_initDone (s : State) : (s.releaseBus).initDone = s.initDone := rfl
@[simp] theorem State.releaseBus_role (s : State) : (s.releaseBus).role = .receiving := rfl
@[simp] theorem State.releaseBus_irqEn (s : State) : (s.releaseBus).irqEn = true := rfl
@[simp] theorem State.releaseBus_oe (s : State) : (s.releaseBus).oe = false := rfl
@[simp] theorem State.releaseBus_clkOut (s : State) : (s.releaseBus).clkOut = s.clkOut := rfl
@[simp] theorem State.releaseBus_dataOut (s : State) : (s.releaseBus).dataOut = s.dataOut := rfl
@[simp] theorem State.releaseBus_csOut (s : State) : (s.releaseBus).csOut = s.csOut := rfl
@[simp] theorem State.releaseBus_csIn (s : State) : (s.releaseBus).csIn = s.csIn := rfl
@[simp] theorem State.releaseBus_clkIn (s : State) : (s.releaseBus).clkIn = s.clkIn := rfl
@[simp] theorem State.releaseBus_dataIn (s : State) : (s.releaseBus).dataIn = s.dataIn := rfl
@[simp] theorem State.releaseBus_rxbuf (s : State) : (s.releaseBus).rxbuf = s.rxbuf := rfl
@[simp] theorem State.releaseBus_last (s : State) : (s.releaseBus).last = s.last := rfl
@[simp] theorem State.releaseBus_lastValid (s : State) : (s.releaseBus).lastValid = s.lastValid := rfl
@[simp] theorem State.releaseBus_hostReq (s : State) : (s.releaseBus).hostReq = s.hostReq := rfl
@[simp] theorem State.releaseBus_hostPolls (s : State) : (s.releaseBus).hostPolls = s.hostPolls := rfl
@[simp] theorem State.releaseBus_txph (s : State) : (s.releaseBus).txph = .idle := rfl
@[simp] theorem State.releaseBus_txseq (s : State) : (s.releaseBus).txseq = s.txseq := rfl
@[simp] theorem State.releaseBus_txidx (s : State) : (s.releaseBus).txidx = s.txidx := rfl
@[simp] theorem State.releaseBus_txsrc (s : State) : (s.releaseBus).txsrc = s.txsrc := rfl
@[simp] theorem State.releaseBus_cfg (s : State) : (s.releaseBus).cfg = s.cfg := rfl
@[simp] theorem State.releaseBus_inputs (s : State) : (s.releaseBus).inputs = s.inputs := rfl
@[simp] theorem State.releaseBus_events (s : State) : (s.releaseBus).events = s.events := rfl
@[simp] theorem State.releaseBus_fnResult (s : State) : (s.releaseBus).fnResult = s.fnResult := rfl

/-! `State.clearRequest` -/

@[simp] theorem State.clearRequest_initDone (s : State) : (s.clearRequest).initDone = s.initDone := rfl
@[simp] theorem State.clearRequest_role (s : State) : (s.clearRequest).role = s.role := rfl
@[simp] theorem State.clearRequest_irqEn (s : State) : (s.clearRequest).irqEn = s.irqEn := rfl
@[simp] theorem State.clearRequest_oe (s : State) : (s.clearRequest).oe = s.oe := rfl
@[simp] theorem State.clearRequest_clkOut (s : State) : (s.clearRequest).clkOut = s.clkOut := rfl
@[simp] theorem State.clearRequest_dataOut (s : State) : (s.clearRequest).dataOut = s.dataOut := rfl
@[simp] theorem State.clearRequest_csOut (s : State) : (s.clearRequest).csOut = s.csOut := rfl
@[simp] theorem State.clearRequest_csIn (s : State) : (s.clearRequest).csIn = s.csIn := rfl
@[simp] theorem State.clearRequest_clkIn (s : State) : (s.clearRequest).clkIn = s.clkIn := rfl
@[simp] theorem State.clearRequest_dataIn (s : State) : (s.clearRequest).dataIn = s.dataIn := rfl
@[simp] theorem State.clearRequest_rxbuf (s : State) : (s.clearRequest).rxbuf = s.rxbuf := rfl
@[simp] theorem State.clearRequest_last (s : State) : (s.clearRequest).last = s.last := rfl
@[simp] theorem State.clearRequest_lastValid (s : State) : (s.clearRequest).lastValid = s.lastValid := rfl
@[simp] theorem State.clearRequest_hostReq (s : State) : (s.clearRequest).hostReq = ⟨false, s.hostReq.p⟩ := rfl
@[simp] theorem State.clearRequest_hostPolls (s : State) : (s.clearRequest).hostPolls = 0 := rfl
@[simp] theorem State.clearRequest_txph (s : State) : (s.clearRequest).txph = s.txph := rfl
@[simp] theorem State.clearRequest_txseq (s : State) : (s.clearRequest).txseq = s.txseq := rfl
@[simp] theorem State.clearRequest_txidx (s : State) : (s.clearRequest).txidx = s.txidx := rfl
@[simp] theorem State.clearRequest_txsrc (s : State) : (s.clearRequest).txsrc = s.txsrc := rfl
@[simp] theorem State.clearRequest_cfg (s : State) : (s.clearRequest).cfg = s.cfg := rfl
@[simp] theorem State.clearRequest_inputs (s : State) : (s.clearRequest).inputs = s.inputs := rfl
@[simp] theorem State.clearRequest_events (s : State) : (s.clearRequest).events = s.events := rfl
@[simp] theorem State.clearRequest_fnResult (s : State) : (s.clearRequest).fnResult = s.fnResult := rfl

/-! `State.retain` -/

@[simp] theorem State.retain_initDone (s : State) (p : Payload) : (s.retain p).initDone = s.initDone := rfl
@[simp] theorem State.retain_role (s : State) (p : Payload) : (s.retain p).role = s.role := rfl
@[simp] theorem State.retain_irqEn (s : State) (p : Payload) : (s.retain p).irqEn = s.irqEn := rfl
@[simp] theorem State.retain_oe (s : State) (p : Payload) : (s.retain p).oe = s.oe := rfl
@[simp] theorem State.retain_clkOut (s : State) (p : Payload) : (s.retain p).clkOut = s.clkOut := rfl
@[simp] theorem State.retain_dataOut (s : State) (p : Payload) : (s.retain p).dataOut = s.dataOut := rfl
@[simp] theorem State.retain_csOut (s : State) (p : Payload) : (s.retain p).csOut = s.csOut := rfl
@[simp] theorem State.retain_csIn (s : State) (p : Payload) : (s.retain p).csIn = s.csIn := rfl
@[simp] theorem State.retain_clkIn (s : State) (p : Payload) : (s.retain p).clkIn = s.clkIn := rfl
@[simp] theorem State.retain_dataIn (s : State) (p : Payload) : (s.retain p).dataIn = s.dataIn := rfl
@[simp] theorem State.retain_rxbuf (s : State) (p : Payload) : (s.retain p).rxbuf = s.rxbuf := rfl
@[simp] theorem State.retain_last (s : State) (p : Payload) : (s.retain p).last = p := rfl
@[simp] theorem State.retain_lastValid (s : State) (p : Payload) : (s.retain p).lastValid = true := rfl
@[simp] theorem State.retain_hostReq (s : State) (p : Payload) : (s.retain p).hostReq = s.hostReq := rfl
@[simp] theorem State.retain_hostPolls (s : State) (p : Payload) : (s.retain p).hostPolls = s.hostPolls := rfl
@[simp] theorem State.retain_txph (s : State) (p : Payload) : (s.retain p).txph = s.txph := rfl
@[simp] theorem State.retain_txseq (s : State) (p : Payload) : (s.retain p).txseq = s.txseq := rfl
@[simp] theorem State.retain_txidx (s : State) (p : Payload) : (s.retain p).txidx = s.txidx := rfl
@[simp] theorem State.retain_txsrc (s : State) (p : Payload) : (s.retain p).txsrc = s.txsrc := rfl
@[simp] theorem State.retain_cfg (s : State) (p : Payload) : (s.retain p).cfg = s.cfg := rfl
@[simp] theorem State.retain_inputs (s : State) (p : Payload) : (s.retain p).inputs = s.inputs := rfl
@[simp] theorem State.retain_events (s : State) (p : Payload) : (s.retain p).events = s.events := rfl
@[simp] theorem State.retain_fnResult (s : State) (p : Payload) : (s.retain p).fnResult = s.fnResult := rfl

/-! `State.popInput` -/

@[simp] theorem State.popInput_initDone (s : State) : (s.popInput).initDone = s.initDone := rfl
@[simp] theorem State.popInput_role (s : State) : (s.popInput).role = s.role := rfl
@[simp] theorem State.popInput_irqEn (s : State) : (s.popInput).irqEn = s.irqEn := rfl
@[simp] theorem State.popInput_oe (s : State) : (s.popInput).oe = s.oe := rfl
@[simp] theorem State.popInput_clkOut (s : State) : (s.popInput).clkOut = s.clkOut := rfl
@[simp] theorem State.popInput_dataOut (s : State) : (s.popInput).dataOut = s.dataOut := rfl
@[simp] theorem State.popInput_csOut (s : State) : (s.popInput).csOut = s.csOut := rfl
@[simp] theorem State.popInput_csIn (s : State) : (s.popInput).csIn = s.csIn := rfl
@[simp] theorem State.popInput_clkIn (s : State) : (s.popInput).clkIn = s.clkIn := rfl
@[simp] theorem State.popInput_dataIn (s : State) : (s.popInput).dataIn = s.dataIn := rfl
@[simp] theorem State.popInput_rxbuf (s : State) : (s.popInput).rxbuf = s.rxbuf := rfl
@[simp] theorem State.popInput_last (s : State) : (s.popInput).last = s.last := rfl
@[simp] theorem State.popInput_lastValid (s : State) : (s.popInput).lastValid = s.lastValid := rfl
@[simp] theorem State.popInput_hostReq (s : State) : (s.popInput).hostReq = s.hostReq := rfl
@[simp] theorem State.popInput_hostPolls (s : State) : (s.popInput).hostPolls = s.hostPolls := rfl
@[simp] theorem State.popInput_txph (s : State) : (s.popInput).txph = s.txph := rfl
@[simp] theorem State.popInput_txseq (s : State) : (s.popInput).txseq = s.txseq := rfl
@[simp] theorem State.popInput_txidx (s : State) : (s.popInput).txidx = s.txidx := rfl
@[simp] theorem State.popInput_txsrc (s : State) : (s.popInput).txsrc = s.txsrc := rfl
@[simp] theorem State.popInput_cfg (s : State) : (s.popInput).cfg = s.cfg := rfl
@[simp] theorem State.popInput_inputs (s : State) : (s.popInput).inputs = s.inputs.tail := rfl
@[simp] theorem State.popInput_events (s : State) : (s.popInput).events = s.events := rfl
@[simp] theorem State.popInput_fnResult (s : State) : (s.popInput).fnResult = s.fnResult := rfl

/-! `State.initialise` -/

@[simp] theorem State.initialise_initDone (s : State) (c k d : Bit) : (s.initialise c k d).initDone = true := rfl
@[simp] theorem State.initialise_role (s : State) (c k d : Bit) : (s.initialise c k d).role = .receiving := rfl
@[simp] theorem State.initialise_irqEn (s : State) (c k d : Bit) : (s.initialise c k d).irqEn = true := rfl
@[simp] theorem State.initialise_oe (s : State) (c k d : Bit) : (s.initialise c k d).oe = false := rfl
@[simp] theorem State.initialise_clkOut (s : State) (c k d : Bit) : (s.initialise c k d).clkOut = false := rfl
@[simp] theorem State.initialise_dataOut (s : State) (c k d : Bit) : (s.initialise c k d).dataOut = false := rfl
@[simp] theorem State.initialise_csOut (s : State) (c k d : Bit) : (s.initialise c k d).csOut = false := rfl
@[simp] theorem State.initialise_csIn (s : State) (c k d : Bit) : (s.initialise c k d).csIn = c := rfl
@[simp] theorem State.initialise_clkIn (s : State) (c k d : Bit) : (s.initialise c k d).clkIn = k := rfl
@[simp] theorem State.initialise_dataIn (s : State) (c k d : Bit) : (s.initialise c k d).dataIn = d := rfl
@[simp] theorem State.initialise_rxbuf (s : State) (c k d : Bit) : (s.initialise c k d).rxbuf = [] := rfl
@[simp] theorem State.initialise_last (s : State) (c k d : Bit) : (s.initialise c k d).last = s.last := rfl
@[simp] theorem State.initialise_lastValid (s : State) (c k d : Bit) : (s.initialise c k d).lastValid = false := rfl
@[simp] theorem State.initialise_hostReq (s : State) (c k d : Bit) : (s.initialise c k d).hostReq = ⟨false, s.hostReq.p⟩ := rfl
@[simp] theorem State.initialise_hostPolls (s : State) (c k d : Bit) : (s.initialise c k d).hostPolls = 0 := rfl
@[simp] theorem State.initialise_txph (s : State) (c k d : Bit) : (s.initialise c k d).txph = .idle := rfl
@[simp] theorem State.initialise_txseq (s : State) (c k d : Bit) : (s.initialise c k d).txseq = [] := rfl
@[simp] theorem State.initialise_txidx (s : State) (c k d : Bit) : (s.initialise c k d).txidx = 0 := rfl
@[simp] theorem State.initialise_txsrc (s : State) (c k d : Bit) : (s.initialise c k d).txsrc = .host := rfl
@[simp] theorem State.initialise_cfg (s : State) (c k d : Bit) : (s.initialise c k d).cfg = s.cfg := rfl
@[simp] theorem State.initialise_inputs (s : State) (c k d : Bit) : (s.initialise c k d).inputs = s.inputs := rfl
@[simp] theorem State.initialise_events (s : State) (c k d : Bit) : (s.initialise c k d).events = s.events := rfl
@[simp] theorem State.initialise_fnResult (s : State) (c k d : Bit) : (s.initialise c k d).fnResult = s.fnResult := rfl

/-! `State.setLevel` -/

@[simp] theorem State.setLevel_initDone (s : State) (l : Line) (v : Bit) : (s.setLevel l v).initDone = s.initDone := by cases l <;> rfl
@[simp] theorem State.setLevel_role (s : State) (l : Line) (v : Bit) : (s.setLevel l v).role = s.role := by cases l <;> rfl
@[simp] theorem State.setLevel_irqEn (s : State) (l : Line) (v : Bit) : (s.setLevel l v).irqEn = s.irqEn := by cases l <;> rfl
@[simp] theorem State.setLevel_oe (s : State) (l : Line) (v : Bit) : (s.setLevel l v).oe = s.oe := by cases l <;> rfl
@[simp] theorem State.setLevel_clkOut (s : State) (l : Line) (v : Bit) : (s.setLevel l v).clkOut = s.clkOut := by cases l <;> rfl
@[simp] theorem State.setLevel_dataOut (s : State) (l : Line) (v : Bit) : (s.setLevel l v).dataOut = s.dataOut := by cases l <;> rfl
@[simp] theorem State.setLevel_csOut (s : State) (l : Line) (v : Bit) : (s.setLevel l v).csOut = s.csOut := by cases l <;> rfl
@[simp] theorem State.setLevel_csIn (s : State) (l : Line) (v : Bit) : (s.setLevel l v).csIn = if l = .cs then v else s.csIn := by cases l <;> rfl
@[simp] theorem State.setLevel_clkIn (s : State) (l : Line) (v : Bit) : (s.setLevel l v).clkIn = if l = .clk then v else s.clkIn := by cases l <;> rfl
@[simp] theorem State.setLevel_dataIn (s : State) (l : Line) (v : Bit) : (s.setLevel l v).dataIn = if l = .data then v else s.dataIn := by cases l <;> rfl
@[simp] theorem State.setLevel_rxbuf (s : State) (l : Line) (v : Bit) : (s.setLevel l v).rxbuf = s.rxbuf := by cases l <;> rfl
@[simp] theorem State.setLevel_last (s : State) (l : Line) (v : Bit) : (s.setLevel l v).last = s.last := by cases l <;> rfl
@[simp] theorem State.setLevel_lastValid (s : State) (l : Line) (v : Bit) : (s.setLevel l v).lastValid = s.lastValid := by cases l <;> rfl
@[simp] theorem State.setLevel_hostReq (s : State) (l : Line) (v : Bit) : (s.setLevel l v).hostReq = s.hostReq := by cases l <;> rfl
@[simp] theorem State.setLevel_hostPolls (s : State) (l : Line) (v : Bit) : (s.setLevel l v).hostPolls = s.hostPolls := by cases l <;> rfl
@[simp] theorem State.setLevel_txph (s : State) (l : Line) (v : Bit) : (s.setLevel l v).txph = s.txph := by cases l <;> rfl
@[simp] theorem State.setLevel_txseq (s : State) (l : Line) (v : Bit) : (s.setLevel l v).txseq = s.txseq := by cases l <;> rfl
@[simp] theorem State.setLevel_txidx (s : State) (l : Line) (v : Bit) : (s.setLevel l v).txidx = s.txidx := by cases l <;> rfl
@[simp] theorem State.setLevel_txsrc (s : State) (l : Line) (v : Bit) : (s.setLevel l v).txsrc = s.txsrc := by cases l <;> rfl
@[simp] theorem State.setLevel_cfg (s : State) (l : Line) (v : Bit) : (s.setLevel l v).cfg = s.cfg := by cases l <;> rfl
@[simp] theorem State.setLevel_inputs (s : State) (l : Line) (v : Bit) : (s.setLevel l v).inputs = s.inputs := by cases l <;> rfl
@[simp] theorem State.setLevel_events (s : State) (l : Line) (v : Bit) : (s.setLevel l v).events = s.events := by cases l <;> rfl
@[simp] theorem State.setLevel_fnResult (s : State) (l : Line) (v : Bit) : (s.setLevel l v).fnResult = s.fnResult := by cases l <;> rfl

/-! `State.capture` -/

@[simp] theorem State.capture_initDone (s : State) (b : Bit) : (s.capture b).initDone = s.initDone := by
  unfold State.capture; split <;> rfl
@[simp] theorem State.capture_role (s : State) (b : Bit) : (s.capture b).role = s.role := by
  unfold State.capture; split <;> rfl
@[simp] theorem State.capture_irqEn (s : State) (b : Bit) : (s.capture b).irqEn = s.irqEn := by
  unfold State.capture; split <;> rfl
@[simp] theorem State.capture_oe (s : State) (b : Bit) : (s.capture b).oe = s.oe := by
  unfold State.capture; split <;> rfl
@[simp] theorem State.capture_clkOut (s : State) (b : Bit) : (s.capture b).clkOut = s.clkOut := by
  unfold State.capture; split <;> rfl
@[simp] theorem State.capture_dataOut (s : State) (b : Bit) : (s.capture b).dataOut = s.dataOut := by
  unfold State.capture; split <;> rfl
@[simp] theorem State.capture_csOut (s : State) (b : Bit) : (s.capture b).csOut = s.csOut := by
  unfold State.capture; split <;> rfl
@[simp] theorem State.capture_csIn (s : State) (b : Bit) : (s.capture b).csIn = s.csIn := by
  unfold State.capture; split <;> rfl
@[simp] theorem State.capture_clkIn (s : State) (b : Bit) : (s.capture b).clkIn = s.clkIn := by
  unfold State.capture; split <;> rfl
@[simp] theorem State.capture_dataIn (s : State) (b : Bit) : (s.capture b).dataIn = s.dataIn := by
  unfold State.capture; split <;> rfl
@[simp] theorem State.capture_rxbuf (s : State) (b : Bit) : (s.capture b).rxbuf = if s.rxcnt < s.cfg.maxBufferBits then s.rxbuf ++ [b] else s.rxbuf := by
  unfold State.capture; split <;> rfl
@[simp] theorem State.capture_last (s : State) (b : Bit) : (s.capture b).last = s.last := by
  unfold State.capture; split <;> rfl
@[simp] theorem State.capture_lastValid (s : State) (b : Bit) : (s.capture b).lastValid = s.lastValid := by
  unfold State.capture; split <;> rfl
@[simp] theorem State.capture_hostReq (s : State) (b : Bit) : (s.capture b).hostReq = s.hostReq := by
  unfold State.capture; split <;> rfl
@[simp] theorem State.capture_hostPolls (s : State) (b : Bit) : (s.capture b).hostPolls = s.hostPolls := by
  unfold State.capture; split <;> rfl
@[simp] theorem State.capture_txph (s : State) (b : Bit) : (s.capture b).txph = s.txph := by
  unfold State.capture; split <;> rfl
@[simp] theorem State.capture_txseq (s : State) (b : Bit) : (s.capture b).txseq = s.txseq := by
  unfold State.capture; split <;> rfl
@[simp] theorem State.capture_txidx (s : State) (b : Bit) : (s.capture b).txidx = s.txidx := by
  unfold State.capture; split <;> rfl
@[simp] theorem State.capture_txsrc (s : State) (b : Bit) : (s.capture b).txsrc = s.txsrc := by
  unfold State.capture; split <;> rfl
@[simp] theorem State.capture_cfg (s : State) (b : Bit) : (s.capture b).cfg = s.cfg := by
  unfold State.capture; split <;> rfl
@[simp] theorem State.capture_inputs (s : State) (b : Bit) : (s.capture b).inputs = s.inputs := by
  unfold State.capture; split <;> rfl
@[simp] theorem State.capture_events (s : State) (b : Bit) : (s.capture b).events = s.events := by
  unfold State.capture; split <;> rfl
@[simp] theorem State.capture_fnResult (s : State) (b : Bit) : (s.capture b).fnResult = s.fnResult := by
  unfold State.capture; split <;> rfl

/-- A line's level after its own pin step is the new level (R120). -/
@[simp] theorem State.level_setLevel_self (s : State) (l : Line) (v : Bit) : (s.setLevel l v).level l = v := by
  cases l <;> rfl

/-- The level of another line is unchanged. -/
theorem State.level_setLevel_ne (s : State) {l m : Line} (h : m ≠ l) (v : Bit) :
    (s.setLevel l v).level m = s.level m := by
  cases l <;> cases m <;> first | rfl | exact absurd rfl h

/-- Writing the level a line already has changes nothing. -/
theorem State.setLevel_level (s : State) (l : Line) : s.setLevel l (s.level l) = s := by
  cases l <;> rfl

end Sys2Proof.Machine
end

