-- ==== Sys2Proof/Laws/Ops.lean ====
section
/-! SUPPORT. For each shared operation, once, everything it can answer. -/

namespace Sys2Proof.Machine

/-- An operation that answers a next state was enabled, and the answer is the operation's. -/
theorem whenEnabled_next {c : Bool} {s t : State} {k : Res} :
    whenEnabled c s k = .next t ↔ s.initDone = true ∧ c = true ∧ k = .next t := by
  unfold whenEnabled
  split <;> [split; skip] <;> simp_all

theorem whenEnabled_of {c : Bool} {s : State} {k : Res} (hi : s.initDone = true) (hc : c = true) :
    whenEnabled c s k = k := by
  simp [whenEnabled, hi, hc]

/-- It faults only where the operation does. -/
theorem whenEnabled_fault {c : Bool} {s : State} {k : Res} {f : Fault} :
    whenEnabled c s k = .fault f ↔ s.initDone = true ∧ c = true ∧ k = .fault f := by
  unfold whenEnabled
  split <;> [split; skip] <;> simp_all

theorem whenEnabled_uninit {c : Bool} {s : State} {k : Res} (hi : s.initDone = false) :
    whenEnabled c s k = .refused .notInitialised := by
  simp [whenEnabled, hi]

/-- `ACQUIRE(ENCODE(p), src)` takes the bus with the frame of `p`, or faults for a payload no frame can carry. -/
theorem sendFrame_cases (p : Payload) (c : Source) (s : State) :
    (p.length ≤ maxPayload ∧ sendFrame p c s = .next (s.acquire (frameBits p) c)) ∨
      (maxPayload < p.length ∧ sendFrame p c s = .fault .encodeTooLong) := by
  by_cases h : p.length ≤ maxPayload
  · exact .inl ⟨h, by simp [sendFrame, frameEncode_fits h]⟩
  · exact .inr ⟨by omega, by simp [sendFrame, frameEncode_long (by omega : maxPayload < p.length)]⟩

theorem sendFrame_of {p : Payload} (h : p.length ≤ maxPayload) (c : Source) (s : State) :
    sendFrame p c s = .next (s.acquire (frameBits p) c) := by
  simp [sendFrame, frameEncode_fits h]

theorem sendFrame_sentinel (c : Source) (s : State) :
    sendFrame sentinel c s = .next (s.acquire (frameBits sentinel) c) :=
  sendFrame_of (by decide) c s

/-- A captured bit is appended or dropped (R51). -/
theorem capture_cases (s : State) (b : Bit) :
    (s.rxcnt < s.cfg.maxBufferBits ∧ s.capture b = { s with rxbuf := s.rxbuf ++ [b] }) ∨
      (s.cfg.maxBufferBits ≤ s.rxcnt ∧ s.capture b = s) := by
  unfold State.capture
  split
  · exact .inl ⟨‹_›, rfl⟩
  · exact .inr ⟨by omega, rfl⟩

/-- The buffer stays within its capacity. -/
theorem capture_bounded {s : State} (h : s.rxcnt ≤ s.cfg.maxBufferBits) (b : Bit) :
    (s.capture b).rxcnt ≤ s.cfg.maxBufferBits := by
  rcases capture_cases s b with ⟨h', e⟩ | ⟨-, e⟩ <;> rw [e]
  · simp only [State.rxcnt, List.length_append, List.length_singleton] at *; omega
  · exact h

/-- What the dispatch on a completed frame can do (R132): nothing, an error reply, a resend or a delivery. -/
theorem frameDone_cases (b : BitSeq) (s : State) :
    (b = [] ∧ frameDone b s = .next s) ∨
      (b ≠ [] ∧ isMalformed b = true ∧ frameDone b s = .next (s.acquire (frameBits sentinel) .internal)) ∨
      (∃ m, frameDecode b = .ok m ∧ m.valid = true ∧ m.payload = sentinel ∧ s.lastValid = true ∧
        frameDone b s = sendFrame s.last .internal s) ∨
      (∃ m, frameDecode b = .ok m ∧ m.valid = true ∧ m.payload = sentinel ∧ s.lastValid = false ∧
        frameDone b s = .next s) ∨
      (∃ m, frameDecode b = .ok m ∧ m.valid = true ∧ m.payload ≠ sentinel ∧
        frameDone b s = .next ((s.retain m.payload).emit (.onMessage m.payload))) := by
  cases b with
  | nil => exact .inl ⟨rfl, rfl⟩
  | cons x xs =>
    refine .inr ?_
    simp only [frameDone, List.isEmpty_cons, Bool.false_eq_true, if_false, isMalformed, isValid, ne_eq,
      reduceCtorEq, not_false_eq_true, true_and, Bool.not_false]
    cases h : frameDecode (x :: xs) with
    | error e => exact .inl ⟨rfl, sendFrame_sentinel _ _⟩
    | ok m =>
      simp only [Except.ok.injEq, exists_eq_left']
      cases hv : m.valid with
      | false => exact .inl ⟨rfl, sendFrame_sentinel _ _⟩
      | true =>
        refine .inr ?_
        by_cases hp : m.payload = sentinel
        · cases hl : s.lastValid <;> simp [hp, fdResend, fdResendNone]
        · simp [hp, fdDeliver]

/-- The writes of the end of a host send (R108), once: the result, the request cleared, the payload retained if
`RETAIN_ON_SEND` and it is not the sentinel. -/
theorem finishHostSend_eq (s : State) :
    s.finishHostSend =
      { s with
        events := s.events ++ [.sendResult .ok]
        hostReq := ⟨false, s.hostReq.p⟩
        hostPolls := 0
        last := if s.retains then s.hostReq.p else s.last
        lastValid := if s.retains then true else s.lastValid } := by
  unfold State.finishHostSend
  cases h : s.retains <;> rfl

end Sys2Proof.Machine
end

