-- ==== Sys2Proof/Laws/PerInstr.lean ====
section
/-! SUPPORT. A statement for all instructions, one lemma per constructor. -/

namespace Sys2Proof.Laws

/-- The word of a well-formed operation carries the fixed bits of a row of the table, and that row is the
operation's own. -/
def EncodingInTable.Statement (i : Instr) : Prop :=
  i.wf = true →
    ∃ r ∈ tableRows, r.op = i.op ∧ r.matchesWord (encode i).format (encode i).width (encode i).value = true

theorem EncodingInTable.hostInit (c k d : Bit) : EncodingInTable.Statement (.hostInit c k d) := fun _ => by
  simp only [Sys2Proof.encode, Instr.op]
  decide

theorem EncodingInTable.hostSend (p : Payload) : EncodingInTable.Statement (.hostSend p) := fun _ => by
  simp only [Sys2Proof.encode, Instr.op]
  decide

theorem EncodingInTable.txPoll : EncodingInTable.Statement .txPoll := fun _ => by
  simp only [Sys2Proof.encode, Instr.op]
  decide

theorem EncodingInTable.txCsAssert : EncodingInTable.Statement .txCsAssert := fun _ => by
  simp only [Sys2Proof.encode, Instr.op]
  decide

theorem EncodingInTable.txData : EncodingInTable.Statement .txData := fun _ => by
  simp only [Sys2Proof.encode, Instr.op]
  decide

theorem EncodingInTable.txClkHigh : EncodingInTable.Statement .txClkHigh := fun _ => by
  simp only [Sys2Proof.encode, Instr.op]
  decide

theorem EncodingInTable.txClkLow : EncodingInTable.Statement .txClkLow := fun _ => by
  simp only [Sys2Proof.encode, Instr.op]
  decide

theorem EncodingInTable.txCsDeassert : EncodingInTable.Statement .txCsDeassert := fun _ => by
  simp only [Sys2Proof.encode, Instr.op]
  decide

theorem EncodingInTable.txRelease : EncodingInTable.Statement .txRelease := fun _ => by
  simp only [Sys2Proof.encode, Instr.op]
  decide

theorem EncodingInTable.tickNone : EncodingInTable.Statement .tickNone := fun _ => by
  simp only [Sys2Proof.encode, Instr.op]
  decide

theorem EncodingInTable.evCsRise : EncodingInTable.Statement .evCsRise := fun _ => by
  simp only [Sys2Proof.encode, Instr.op]
  decide

theorem EncodingInTable.evCsFall : EncodingInTable.Statement .evCsFall := fun _ => by
  simp only [Sys2Proof.encode, Instr.op]
  decide

theorem EncodingInTable.evClkRise : EncodingInTable.Statement .evClkRise := fun _ => by
  simp only [Sys2Proof.encode, Instr.op]
  decide

theorem EncodingInTable.evClkRiseIdle : EncodingInTable.Statement .evClkRiseIdle := fun _ => by
  simp only [Sys2Proof.encode, Instr.op]
  decide

theorem EncodingInTable.evClkFall : EncodingInTable.Statement .evClkFall := fun _ => by
  simp only [Sys2Proof.encode, Instr.op]
  decide

theorem EncodingInTable.evData (v : Bit) : EncodingInTable.Statement (.evData v) := by
  intro h
  cases v <;> decide

theorem EncodingInTable.evMasked (l : Line) (v : Bit) : EncodingInTable.Statement (.evMasked l v) := by
  intro h
  cases l <;> cases v <;> first | decide | cases h

theorem EncodingInTable.evSteadyLow (l : Line) : EncodingInTable.Statement (.evSteadyLow l) := by
  intro h
  cases l <;> first | decide | cases h

theorem EncodingInTable.evSteadyHigh (l : Line) : EncodingInTable.Statement (.evSteadyHigh l) := by
  intro h
  cases l <;> first | decide | cases h

theorem EncodingInTable.fdEmpty : EncodingInTable.Statement .fdEmpty := fun _ => by
  simp only [Sys2Proof.encode, Instr.op]
  decide

theorem EncodingInTable.fdErrorReplyIncomplete : EncodingInTable.Statement .fdErrorReplyIncomplete := fun _ => by
  simp only [Sys2Proof.encode, Instr.op]
  decide

theorem EncodingInTable.fdErrorReplyMismatch : EncodingInTable.Statement .fdErrorReplyMismatch := fun _ => by
  simp only [Sys2Proof.encode, Instr.op]
  decide

theorem EncodingInTable.fdDeliver (p : Payload) : EncodingInTable.Statement (.fdDeliver p) := fun _ => by
  simp only [Sys2Proof.encode, Instr.op]
  decide

theorem EncodingInTable.fdResend : EncodingInTable.Statement .fdResend := fun _ => by
  simp only [Sys2Proof.encode, Instr.op]
  decide

theorem EncodingInTable.fdResendNone : EncodingInTable.Statement .fdResendNone := fun _ => by
  simp only [Sys2Proof.encode, Instr.op]
  decide

theorem EncodingInTable.checksum (p : Payload) : EncodingInTable.Statement (.checksum p) := fun _ => by
  simp only [Sys2Proof.encode, Instr.op]
  decide

theorem EncodingInTable.encode (p : Payload) : EncodingInTable.Statement (.encode p) := fun _ => by
  simp only [Sys2Proof.encode, Instr.op]
  decide

theorem EncodingInTable.decode (b : BitSeq) : EncodingInTable.Statement (.decode b) := fun _ => by
  simp only [Sys2Proof.encode, Instr.op]
  decide

theorem EncodingInTable.frameEmpty : EncodingInTable.Statement .frameEmpty := fun _ => by
  simp only [Sys2Proof.encode, Instr.op]
  decide

theorem EncodingInTable.frameSentinel : EncodingInTable.Statement .frameSentinel := fun _ => by
  simp only [Sys2Proof.encode, Instr.op]
  decide

end Sys2Proof.Laws
end

