-- ==== Sys2Proof/Laws/Step.lean ====
section
/-! SUPPORT. The step function: which operation an input selects, runs of inputs. -/

namespace Sys2Proof.Machine

@[simp] theorem runInputs_nil (s : State) : runInputs [] s = .next s := rfl

/-- A run continues after its first step. -/
theorem runInputs_cons_next {e : Input} {s t : State} (h : stepInput e s = .next t) (es : List Input) :
    runInputs (e :: es) s = runInputs es t := by
  simp [runInputs, h]

/-- A run is the run of its first part and then of its second. -/
theorem runInputs_append {es : List Input} {s t : State} (h : runInputs es s = .next t) (fs : List Input) :
    runInputs (es ++ fs) s = runInputs fs t := by
  induction es generalizing s with
  | nil => cases h; rfl
  | cons e es ih =>
    simp only [runInputs, List.cons_append] at h ⊢
    split at h
    · exact ih h
    · cases h
    · cases h

/-- A step runs the operation it selects. -/
theorem stepInput_of_selected {e : Input} {s : State} {i : Instr} (h : selected e s = .ok i) :
    stepInput e s = exec i s := by
  simp [stepInput, h]

/-- What a step that answers a next state did: it selected an operation, and that operation answered it. -/
theorem stepInput_next {e : Input} {s t : State} (h : stepInput e s = .next t) :
    ∃ i, selected e s = .ok i ∧ exec i s = .next t := by
  unfold stepInput at h
  split at h
  · exact ⟨_, ‹_›, h⟩
  · cases h

/-- A machine step with a next input is the step of that input on the rest of the schedule. -/
theorem step_of_nextInput {s : State} {e : Input} (h : s.nextInput = some e) : step s = stepInput e s.popInput := by
  simp [step, h]

/-- A machine step without a next input changes nothing. -/
theorem step_idle {s : State} (h : s.nextInput = none) : step s = .next s := by
  simp [step, h]

/-- What a machine step that answers a next state did: it performed its next input, or it was idle. -/
theorem step_next {s t : State} (h : step s = .next t) :
    (∃ e, s.nextInput = some e ∧ stepInput e s.popInput = .next t) ∨ (s.nextInput = none ∧ t = s) := by
  cases hn : s.nextInput with
  | some e => exact .inl ⟨e, rfl, by rw [← step_of_nextInput hn, h]⟩
  | none =>
    rw [step_idle hn] at h
    cases h
    exact .inr ⟨rfl, rfl⟩

/-- There is no next input exactly where nothing is scheduled and no `TICK` is enabled (R110). -/
theorem nextInput_eq_none {s : State} : s.nextInput = none ↔ s.inputs = [] ∧ s.tickEnabled = false := by
  unfold State.nextInput
  cases s.inputs <;> simp

@[simp] theorem nextInput_push (s : State) (e : Input) : (s.pushInput e).nextInput = some e := rfl

@[simp] theorem popInput_push (s : State) (e : Input) : (s.pushInput e).popInput = s := rfl

/-- `HOST_INIT` selects its row whatever the state. -/
@[simp] theorem selected_hostInit (c k d : Bit) (s : State) :
    selected (.hostInit c k d) s = .ok (.hostInit c k d) :=
  decode_of_row (w := ⟨.host, 1, 0, .levels c k d⟩)
    (show findRow .host 1 0 = some ⟨.hostInit, .host, 1, 0, 1⟩ by decide) rfl rfl

/-- `HOST_SEND` selects its row whatever the state. -/
@[simp] theorem selected_hostSend (p : Payload) (s : State) : selected (.hostSend p) s = .ok (.hostSend p) :=
  decode_of_row (w := ⟨.host, 1, 1, .payload p⟩)
    (show findRow .host 1 1 = some ⟨.hostSend, .host, 1, 1, 1⟩ by decide) rfl rfl

/-- A Data step selects `EV_DATA` (R125). -/
theorem selected_data (v : Bit) (s : State) : selected (.pin .data v) s = .ok (.evData v) := by
  simp only [selected, inputWord, pinSelector, State.level]
  cases s.irqEn <;> cases s.csIn <;> cases s.dataIn <;> cases v <;> rfl

/-- A CS step selects by `IRQ_EN`, the tracked level and the new one (R77). -/
theorem selected_cs (v : Bit) (s : State) :
    selected (.pin .cs v) s =
      .ok (if s.irqEn then
            (match s.csIn, v with
             | false, false => .evSteadyLow .cs
             | false, true => .evCsRise
             | true, false => .evCsFall
             | true, true => .evSteadyHigh .cs)
           else .evMasked .cs v) := by
  simp only [selected, inputWord, pinSelector, State.level]
  cases s.irqEn <;> cases s.csIn <;> cases v <;> rfl

/-- A Clock step selects by `IRQ_EN`, the tracked level, the new one and, for a rise, `CS_IN` (R77). -/
theorem selected_clk (v : Bit) (s : State) :
    selected (.pin .clk v) s =
      .ok (if s.irqEn then
            (match s.clkIn, v with
             | false, false => .evSteadyLow .clk
             | false, true => if s.csIn then .evClkRise else .evClkRiseIdle
             | true, false => .evClkFall
             | true, true => .evSteadyHigh .clk)
           else .evMasked .clk v) := by
  simp only [selected, inputWord, pinSelector, State.level]
  cases s.irqEn <;> cases s.csIn <;> cases s.clkIn <;> cases v <;> rfl

/-- A `TICK` while `Sending` selects the micro-step of the phase (R78). -/
theorem selected_tick_sending {s : State} (h : s.role = .sending) :
    selected .tick s =
      (match s.txph with
       | .idle => .error .tickVectorUnreachable
       | .csAssert => .ok .txCsAssert
       | .data => .ok .txData
       | .clkHigh => .ok .txClkHigh
       | .clkLow => .ok .txClkLow
       | .csDeassert => .ok .txCsDeassert
       | .release => .ok .txRelease) := by
  simp only [selected, inputWord, tickSelector, h]
  cases s.hostReq.valid <;> cases s.txph <;> rfl

/-- A `TICK` while `Receiving` and idle polls for a waiting request, else selects the row that is no step (R78). -/
theorem selected_tick_receiving {s : State} (h : s.role = .receiving) (hp : s.txph = .idle) :
    selected .tick s = .ok (if s.hostReq.valid then .txPoll else .tickNone) := by
  simp only [selected, inputWord, tickSelector, h, hp]
  cases s.hostReq.valid <;> rfl

/-- A `TICK` while `Receiving` and not idle is a vector no reachable state has (R36 (a)). -/
theorem selected_tick_unreachable {s : State} (h : s.role = .receiving) (hp : s.txph ≠ .idle) :
    selected .tick s = .error .tickVectorUnreachable := by
  simp only [selected, inputWord, tickSelector, h]
  cases s.hostReq.valid <;> cases hq : s.txph <;> first | rfl | exact absurd hq hp

/-- No `TICK` step exists where R110 does not enable one. -/
theorem stepInput_tick_disabled {s : State} (h : s.tickEnabled = false) (t : State) : stepInput .tick s ≠ .next t := by
  intro ht
  obtain ⟨i, hi, hx⟩ := stepInput_next ht
  cases hd : s.initDone with
  | false =>
    cases hr : s.role with
    | sending =>
      rw [selected_tick_sending hr] at hi
      cases hp : s.txph <;> rw [hp] at hi <;> cases hi <;>
        simp [exec, execTxCsAssert, execTxData, execTxClkHigh, execTxClkLow, execTxCsDeassert, execTxRelease,
          whenEnabled, hd] at hx
    | receiving =>
      by_cases hp : s.txph = .idle
      · rw [selected_tick_receiving hr hp] at hi
        cases hv : s.hostReq.valid <;> rw [hv] at hi <;> cases hi <;>
          simp [exec, execTxPoll, execTickNone, whenEnabled, hd] at hx
      · rw [selected_tick_unreachable hr hp] at hi
        cases hi
  | true =>
    have hw : s.role = .receiving ∧ s.hostReq.valid = false := by
      cases hr : s.role <;> simp_all [State.tickEnabled]
    by_cases hp : s.txph = .idle
    · rw [selected_tick_receiving hw.1 hp, hw.2] at hi
      cases hi
      simp [exec, execTickNone, hd] at hx
    · rw [selected_tick_unreachable hw.1 hp] at hi
      cases hi

/-- A call that is not refused runs a codec function. -/
theorem selected_call {w : OpWord} {s : State} {i : Instr} (h : selected (.call w) s = .ok i) :
    (∃ p, i = .checksum p) ∨ (∃ p, i = .encode p) ∨ (∃ b, i = .decode b) := by
  simp only [selected, inputWord] at h
  cases hd : decode w with
  | error r => rw [hd] at h; cases h
  | ok j =>
    simp only [hd] at h
    by_cases hc : callable j = true
    · rw [if_pos hc] at h
      cases h
      cases i <;> simp_all [callable]
    · rw [if_neg hc] at h
      cases h

/-- A call of a codec function changes the function result port and nothing else. -/
theorem stepInput_call {w : OpWord} {s t : State} (h : stepInput (.call w) s = .next t) :
    ∃ r, t = { s with fnResult := r } := by
  obtain ⟨i, hi, ht⟩ := stepInput_next h
  rcases selected_call hi with ⟨p, rfl⟩ | ⟨p, rfl⟩ | ⟨b, rfl⟩ <;> cases ht <;> exact ⟨_, rfl⟩

end Sys2Proof.Machine
end

