-- ==== Sys2Proof/Tests/Slice0.lean ====
section
/-! SUPPORT. Tests. Expected results are the spec's own: 95_test_vectors.md, the tables of 30_encoding.md and the
worked examples of the rules, named at each test. The last part shows, for each statement that has hypotheses,
values that meet them. -/

namespace Sys2Proof.Tests

open Sys2Proof Sys2Proof.Machine

/-- The answer is a next state with the property. -/
def nextIs (r : Res) (p : State → Bool) : Bool :=
  match r with
  | .next t => p t
  | .fault _ => false
  | .refused _ => false

/-- The answer is this refusal. -/
def refusedAs (r : Res) (x : Refusal) : Bool :=
  match r with
  | .next _ => false
  | .fault _ => false
  | .refused y => x == y

/-- The parameters of 95_test_vectors.md, with `BUS_FREE_TIMEOUT_POLLS = 3`. -/
def cfg3 : Config := ⟨256, 3, true, 1, 1, 1⟩

/-- The reset state of 95_test_vectors.md under those parameters. -/
def base : State := State.resetWith cfg3 false false false

/-- `"Hi 42"`. -/
def hi42 : Payload := [72, 105, 32, 52, 50]

/-- `ENCODE("Hi 42")`, written out (95 part 1). -/
def hi42Frame : BitSeq :=
  [false, false, false, false, false, true, false, true,
   false, true, false, false, true, false, false, false,
   false, true, true, false, true, false, false, true,
   false, false, true, false, false, false, false, false,
   false, false, true, true, false, true, false, false,
   false, false, true, true, false, false, true, false,
   false, false, true, true, false, true, true, true]

/-- A framer that has just taken the bus for a host send of `"A"`. -/
def sendingA : State := ({ base with hostReq := ⟨true, [0x41]⟩ }).acquire (frameBits [0x41]) .host

/-! ### Well-formedness: each check refuses an ill-formed operation -/

theorem test_wf_masked_data_refused : (Instr.evMasked .data true).wf = false := by decide
theorem test_wf_steady_low_data_refused : (Instr.evSteadyLow .data).wf = false := by decide
theorem test_wf_steady_high_data_refused : (Instr.evSteadyHigh .data).wf = false := by decide
theorem test_wf_deliver_sentinel_refused : (Instr.fdDeliver [0x45, 0x52, 0x52, 0x4F, 0x52]).wf = false := by decide
set_option maxRecDepth 100000 in
theorem test_wf_deliver_256_refused : (Instr.fdDeliver (List.replicate 256 0)).wf = false := by decide
set_option maxRecDepth 100000 in
theorem test_wf_encode_256_refused : (Instr.encode (List.replicate 256 0)).wf = false := by decide
set_option maxRecDepth 100000 in
theorem test_wf_encode_255 : (Instr.encode (List.replicate 255 0)).wf = true := by decide
set_option maxRecDepth 100000 in
theorem test_decode_illFormed : decode ⟨.func, 2, 0b01, .payload (List.replicate 256 0)⟩ = .error .illFormed := by
  decide

/-! ### Decoding: a word of every constructor, written from 30_encoding.md section 3 -/

theorem test_decode_hostInit : decode ⟨.host, 1, 0b0, .levels true false true⟩ = .ok (.hostInit true false true) := by
  decide
theorem test_decode_hostSend : decode ⟨.host, 1, 0b1, .payload [7]⟩ = .ok (.hostSend [7]) := by decide
theorem test_decode_txPoll : decode ⟨.tick, 5, 0b01000, .none⟩ = .ok .txPoll := by decide
theorem test_decode_txCsAssert : decode ⟨.tick, 5, 0b11001, .none⟩ = .ok .txCsAssert := by decide
theorem test_decode_txData : decode ⟨.tick, 5, 0b10010, .none⟩ = .ok .txData := by decide
theorem test_decode_txClkHigh : decode ⟨.tick, 5, 0b11011, .none⟩ = .ok .txClkHigh := by decide
theorem test_decode_txClkLow : decode ⟨.tick, 5, 0b10100, .none⟩ = .ok .txClkLow := by decide
theorem test_decode_txCsDeassert : decode ⟨.tick, 5, 0b11101, .none⟩ = .ok .txCsDeassert := by decide
theorem test_decode_txRelease : decode ⟨.tick, 5, 0b10110, .none⟩ = .ok .txRelease := by decide
theorem test_decode_tickNone : decode ⟨.tick, 5, 0b00000, .none⟩ = .ok .tickNone := by decide
theorem test_decode_evCsRise : decode ⟨.pin, 6, 0b001001, .none⟩ = .ok .evCsRise := by decide
theorem test_decode_evCsFall : decode ⟨.pin, 6, 0b001110, .none⟩ = .ok .evCsFall := by decide
theorem test_decode_evClkRise : decode ⟨.pin, 6, 0b011101, .none⟩ = .ok .evClkRise := by decide
theorem test_decode_evClkRiseIdle : decode ⟨.pin, 6, 0b011001, .none⟩ = .ok .evClkRiseIdle := by decide
theorem test_decode_evClkFall : decode ⟨.pin, 6, 0b011110, .none⟩ = .ok .evClkFall := by decide
theorem test_decode_evData : decode ⟨.pin, 6, 0b101101, .none⟩ = .ok (.evData true) := by decide
theorem test_decode_evMasked : decode ⟨.pin, 6, 0b010101, .none⟩ = .ok (.evMasked .clk true) := by decide
theorem test_decode_evSteadyLow : decode ⟨.pin, 6, 0b011100, .none⟩ = .ok (.evSteadyLow .clk) := by decide
theorem test_decode_evSteadyHigh : decode ⟨.pin, 6, 0b001111, .none⟩ = .ok (.evSteadyHigh .cs) := by decide
theorem test_decode_fdEmpty : decode ⟨.fd, 5, 0b00001, .none⟩ = .ok .fdEmpty := by decide
theorem test_decode_fdErrorReplyIncomplete : decode ⟨.fd, 5, 0b10001, .none⟩ = .ok .fdErrorReplyIncomplete := by
  decide
theorem test_decode_fdErrorReplyMismatch : decode ⟨.fd, 5, 0b11010, .none⟩ = .ok .fdErrorReplyMismatch := by decide
theorem test_decode_fdDeliver : decode ⟨.fd, 5, 0b11101, .payload [0x41]⟩ = .ok (.fdDeliver [0x41]) := by decide
theorem test_decode_fdResend : decode ⟨.fd, 5, 0b11111, .none⟩ = .ok .fdResend := by decide
theorem test_decode_fdResendNone : decode ⟨.fd, 5, 0b11110, .none⟩ = .ok .fdResendNone := by decide
theorem test_decode_checksum : decode ⟨.func, 2, 0b00, .payload [1]⟩ = .ok (.checksum [1]) := by decide
theorem test_decode_encode : decode ⟨.func, 2, 0b01, .payload [1]⟩ = .ok (.encode [1]) := by decide
theorem test_decode_decode : decode ⟨.func, 2, 0b10, .bits [true]⟩ = .ok (.decode [true]) := by decide
theorem test_decode_frameEmpty : decode ⟨.frame, 16, 0b0000000000000000, .none⟩ = .ok .frameEmpty := by decide
theorem test_decode_frameSentinel :
    decode ⟨.frame, 56, 0b00000101010001010101001001010010010011110101001010001010, .none⟩ = .ok .frameSentinel := by
  decide

/-! Rejections by name. -/

theorem test_reject_line_3 : decode ⟨.pin, 6, 0b110000, .none⟩ = .error .noSuchLine := by decide
theorem test_reject_cs_vector : decode ⟨.pin, 6, 0b001010, .none⟩ = .error .pinVectorImpossible := by decide
theorem test_reject_tick_7 : decode ⟨.tick, 5, 0b10111, .none⟩ = .error .tickVectorUnreachable := by decide
theorem test_reject_fn_3 : decode ⟨.func, 2, 0b11, .none⟩ = .error .functionUnused := by decide
theorem test_reject_frame : decode ⟨.frame, 16, 1, .none⟩ = .error .frameNotListed := by decide
theorem test_reject_width : decode ⟨.pin, 5, 0, .none⟩ = .error .wrongWidth := by decide
theorem test_reject_large : decode ⟨.pin, 6, 64, .none⟩ = .error .valueTooLarge := by decide
theorem test_reject_operand : decode ⟨.host, 1, 1, .none⟩ = .error .wrongOperand := by decide
theorem test_reject_uncallable : refusedAs (stepInput (.call ⟨.fd, 5, 0, .none⟩) base) (.noOperation .notCallable) := by
  decide

/-- Every row's bare word is run by the very next step after reset (assumption 12). -/
theorem test_fetch_every_row :
    tableRows.all (fun r => nextIs (step (State.reset.withFetchWord r.roundedWidth r.fixed)) fun _ => true) = true := by
  decide

/-- A bare word whose selector only one format has decodes to its row. -/
theorem test_tableWord_csFall : decodeTableWord 8 0b001110 = some .evCsFall := by decide
theorem test_tableWord_sentinel : decodeTableWord 56 0x054552524F528A = some .frameSentinel := by decide
theorem test_tableWord_none : decodeTableWord 8 0xC0 = none := by decide

/-! ### Codec vectors (95 parts 1 and 2) -/

theorem test_msb8_A5 : msb8 0xA5 = [true, false, true, false, false, true, false, true] := by decide
theorem test_val8_A5 : val8 [true, false, true, false, false, true, false, true] = 165 := by decide
theorem test_checksum_hi42 : nextIs (exec (.checksum hi42) base) (fun t => t.fnResult == .checksum 55) := by decide
theorem test_checksum_wraps : nextIs (exec (.checksum [0x80, 0x80]) base) (fun t => t.fnResult == .checksum 0) := by
  decide
theorem test_encode_hi42 : nextIs (exec (.encode hi42) base) (fun t => t.fnResult == .frame hi42Frame) := by decide
set_option maxRecDepth 100000 in
theorem test_encode_256 :
    nextIs (exec (.encode (List.replicate 256 0)) base) (fun t => t.fnResult == .tooLong) := by decide
theorem test_decode_frame_hi42_surplus :
    nextIs (exec (.decode (hi42Frame ++ [true, true, true])) base)
      (fun t => t.fnResult == .message ⟨5, hi42, 55, true⟩) := by decide
theorem test_decode_frame_hi42_short :
    nextIs (exec (.decode (hi42Frame.take 55)) base) (fun t => t.fnResult == .decodeError .incompleteFrame) := by
  decide
theorem test_frame_patterns : emptyFrame = frameBits [] ∧ sentinelFrame = frameBits sentinel := by decide

/-! ### Driver vectors (95 part 4) -/

theorem test_hostInit : nextIs (exec (.hostInit true false true) (State.powerOn cfg3))
    (fun t => t.csIn && !t.clkIn && t.dataIn && t.irqEn && t.initDone) := by decide
theorem test_pin_before_init :
    refusedAs (stepInput (.pin .data true) (State.powerOn cfg3)) .notInitialised := by decide
theorem test_hostInit_twice : refusedAs (exec (.hostInit false false false) base) .notEnabled := by decide
theorem test_hostSend : nextIs (exec (.hostSend hi42) base)
    (fun t => t.hostReq == ⟨true, hi42⟩ && t.hostPolls == 0 && t.events == []) := by decide
set_option maxRecDepth 100000 in
theorem test_hostSend_256 : nextIs (exec (.hostSend (List.replicate 256 0)) base)
    (fun t => t.events == [.sendResult .payloadTooLong] && !t.hostReq.valid) := by decide
theorem test_txPoll_acquires : nextIs (exec .txPoll { base with hostReq := ⟨true, []⟩, hostPolls := 2 })
    (fun t => t.role == .sending && !t.irqEn && t.oe && t.txph == .csAssert && t.txseq == List.replicate 16 false) := by
  decide
theorem test_txPoll_timeout :
    nextIs (exec .txPoll { base with csIn := true, hostReq := ⟨true, hi42⟩, hostPolls := 2 })
      (fun t => t.events == [.sendResult .busBusyTimeout] && !t.hostReq.valid && t.hostPolls == 0) := by decide
theorem test_txCsAssert : nextIs (exec .txCsAssert sendingA) (fun t => t.csOut && t.txph == .data) := by decide
theorem test_txData_bit5 :
    nextIs (exec .txData { sendingA with txseq := hi42Frame, txph := .data, txidx := 5 })
      (fun t => t.dataOut && t.txph == .clkHigh && t.txidx == 5) := by decide
theorem test_txClkHigh : nextIs (exec .txClkHigh { sendingA with txph := .clkHigh })
    (fun t => t.clkOut && t.txph == .clkLow) := by decide
theorem test_txClkLow_last :
    nextIs (exec .txClkLow { sendingA with txseq := hi42Frame, txph := .clkLow, txidx := 55 })
      (fun t => t.txidx == 56 && t.txph == .csDeassert) := by decide
theorem test_txCsDeassert : nextIs (exec .txCsDeassert { sendingA with txph := .csDeassert, csOut := true })
    (fun t => !t.csOut && t.txph == .release) := by decide
theorem test_txRelease_host : nextIs (exec .txRelease { sendingA with txph := .release })
    (fun t => t.last == [0x41] && t.lastValid && t.events == [.sendResult .ok] && !t.hostReq.valid && !t.oe) := by
  decide
theorem test_txRelease_internal : nextIs (exec .txRelease { sendingA with txph := .release, txsrc := .internal })
    (fun t => !t.lastValid && t.events == [] && t.hostReq.valid && t.irqEn) := by decide
theorem test_tickNone : refusedAs (exec .tickNone base) .noTickStep := by decide
theorem test_tick_after_timeout :
    nextIs (stepInput .tick { base with csIn := true, hostReq := ⟨true, hi42⟩, hostPolls := 2 })
      (fun t => refusedAs (stepInput .tick t) .noTickStep) := by decide

/-! ### Sampler vectors (95 part 3), each as the step of its input -/

theorem test_evCsRise : nextIs (stepInput (.pin .cs true) { base with rxbuf := [true] })
    (fun t => t.csIn && t.rxbuf == []) := by decide
theorem test_evClkRise : nextIs (stepInput (.pin .clk true) { base with csIn := true, dataIn := true, rxbuf := [false, false] })
    (fun t => t.rxbuf == [false, false, true] && t.clkIn) := by decide
theorem test_evClkRise_full :
    nextIs (stepInput (.pin .clk true)
      { base with csIn := true, dataIn := true, rxbuf := [false], cfg := { cfg3 with maxBufferBits := 1 } })
      (fun t => t.rxbuf == [false] && t.clkIn) := by decide
theorem test_evClkRiseIdle : nextIs (stepInput (.pin .clk true) { base with dataIn := true })
    (fun t => t.clkIn && t.rxbuf == []) := by decide
theorem test_evClkFall : nextIs (stepInput (.pin .clk false) { base with csIn := true, clkIn := true, rxbuf := [false] })
    (fun t => !t.clkIn && t.rxbuf == [false]) := by decide
theorem test_evData_masked : nextIs (stepInput (.pin .data true) sendingA) (fun t => t.dataIn) := by decide
theorem test_evMasked : nextIs (stepInput (.pin .clk true) { sendingA with csIn := true })
    (fun t => t.clkIn && t.rxbuf == []) := by decide
theorem test_evSteadyHigh : nextIs (stepInput (.pin .clk true) { base with csIn := true, clkIn := true, rxbuf := [false] })
    (fun t => t.rxbuf == [false] && t.clkIn) := by decide
theorem test_evSteadyLow : nextIs (stepInput (.pin .cs false) base) (fun t => t == base) := by decide
theorem test_evCsFall_deliver :
    nextIs (stepInput (.pin .cs false) { base with csIn := true, rxbuf := hi42Frame })
      (fun t => t.rxbuf == [] && t.last == hi42 && t.lastValid && t.events == [.onMessage hi42]) := by decide
theorem test_evCsFall_empty : nextIs (stepInput (.pin .cs false) { base with csIn := true })
    (fun t => t == base) := by decide

/-! ### Dispatch vectors (95 part 5) -/

theorem test_q_mismatch : fdSelector (msb8 0x01 ++ msb8 0x41 ++ msb8 0x00) false = 0b11000 := by decide
theorem test_q_deliver : fdSelector hi42Frame false = 0b11100 := by decide
theorem test_q_resend : fdSelector sentinelFrame true = 0b11111 := by decide
theorem test_fdEmpty : nextIs (exec .fdEmpty base) (fun t => t == base) := by decide
theorem test_fdErrorReplyIncomplete : nextIs (exec .fdErrorReplyIncomplete base)
    (fun t => t.txseq == sentinelFrame && t.txsrc == .internal && t.events == []) := by decide
theorem test_fdErrorReplyMismatch : nextIs (exec .fdErrorReplyMismatch { base with lastValid := true, last := [1] })
    (fun t => t.txseq == sentinelFrame && t.last == [1]) := by decide
theorem test_fdDeliver_empty : nextIs (exec (.fdDeliver []) base)
    (fun t => t.last == [] && t.lastValid && t.events == [.onMessage []]) := by decide
theorem test_fdResend : nextIs (exec .fdResend { base with lastValid := true, last := hi42 })
    (fun t => t.txseq == hi42Frame && t.txsrc == .internal && t.last == hi42) := by decide
theorem test_fdResendNone : nextIs (exec .fdResendNone base) (fun t => t == base) := by decide
theorem test_frameEmpty : nextIs (exec .frameEmpty base) (fun t => t.events == [.onMessage []]) := by decide
theorem test_frameSentinel : nextIs (exec .frameSentinel { base with lastValid := true, last := hi42 })
    (fun t => t.txseq == hi42Frame && t.events == []) := by decide

/-! ### Two drivers (R57), time (R201) -/

theorem test_line_undriven : lineLevel true none none = false := by decide
theorem test_csActiveTime_hi42 : csActiveTime { cfg3 with csSettle := 0 } 5 = 112 := by decide

/-! ### Witnesses: states and operands that meet the hypotheses of the statements -/

/-- The invariant of a state that has just been reset. -/
theorem base_inv : base.Inv where
  cfgValid := by decide
  lastFits := by decide
  requestFits := by decide
  spec _ :=
    { roleAgrees := ⟨by decide, by decide, by decide⟩
      bufferBounded := by simp [State.bufferBounded, State.rxcnt, base, State.resetWith]
      bufferInFrame := by simp [State.bufferInFrame, base, State.resetWith]
      frameInFlight := by simp [State.frameInFlight, base, State.resetWith]
      requestBounded := ⟨by decide, by decide, by decide⟩
      lastNotSentinel := by simp [State.lastNotSentinel, base, State.resetWith] }
  phase _ := ⟨rfl, rfl⟩
  source _ := by simp [State.sourceAgrees, base, State.resetWith]

/-- The invariant while a host waits for the bus and a malformed frame is being received. -/
def waiting : State := { base with csIn := true, hostReq := ⟨true, [0x42]⟩, hostPolls := 2, rxbuf := [true, false, true] }

theorem waiting_inv : waiting.Inv where
  cfgValid := by decide
  lastFits := by decide
  requestFits := by decide
  spec _ :=
    { roleAgrees := ⟨by decide, by decide, by decide⟩
      bufferBounded := by simp [State.bufferBounded, State.rxcnt, waiting, base, State.resetWith, cfg3]
      bufferInFrame := by simp [State.bufferInFrame, waiting, base, State.resetWith]
      frameInFlight := by simp [State.frameInFlight, waiting, base, State.resetWith]
      requestBounded := ⟨by decide, by decide, by decide⟩
      lastNotSentinel := by simp [State.lastNotSentinel, waiting, base, State.resetWith] }
  phase _ := ⟨rfl, rfl⟩
  source _ := by simp [State.sourceAgrees, waiting, base, State.resetWith]

/-- The invariant while a host waits and the peer's `"ERROR"` has been captured. -/
def waitingResend : State := { waiting with rxbuf := sentinelFrame, last := hi42, lastValid := true }

theorem waitingResend_inv : waitingResend.Inv where
  cfgValid := by decide
  lastFits := by decide
  requestFits := by decide
  spec _ :=
    { roleAgrees := ⟨by decide, by decide, by decide⟩
      bufferBounded := by unfold State.bufferBounded; decide
      bufferInFrame := by simp [State.bufferInFrame, waitingResend, waiting, base, State.resetWith]
      frameInFlight := by simp [State.frameInFlight, waitingResend, waiting, base, State.resetWith]
      requestBounded := ⟨by decide, by decide, by decide⟩
      lastNotSentinel := fun _ => by decide }
  phase _ := ⟨rfl, rfl⟩
  source _ := by simp [State.sourceAgrees, waitingResend, waiting, base, State.resetWith]

/-- The invariant at the end of a host send, one step before its result. -/
def releasing : State := { sendingA with txph := .release, txidx := 24 }

theorem releasing_inv : releasing.Inv where
  cfgValid := by decide
  lastFits := by decide
  requestFits := by decide
  spec _ :=
    { roleAgrees := ⟨by decide, by decide, by decide⟩
      bufferBounded := by simp [State.bufferBounded, State.rxcnt, releasing, sendingA, base, State.resetWith, State.acquire]
      bufferInFrame := by simp [State.bufferInFrame, releasing, sendingA, base, State.resetWith, State.acquire]
      frameInFlight := by simp [State.frameInFlight, releasing, sendingA, State.acquire]
      requestBounded := ⟨by decide, by decide, by decide⟩
      lastNotSentinel := by simp [State.lastNotSentinel, releasing, sendingA, base, State.resetWith, State.acquire] }
  phase _ := ⟨by decide, rfl, rfl⟩
  source _ := fun _ => ⟨[0x41], by decide, rfl, fun _ => ⟨rfl, rfl⟩⟩

theorem base_listening : base.listening := ⟨rfl, rfl, rfl, rfl, rfl, rfl⟩

-- ChecksumIsByteSumModulo256 and EncodeLaysOutFrame, FrameRoundTrip: the bounds of the payload's length.
set_option maxRecDepth 100000 in
theorem witness_encode_bounds :
    (List.replicate 255 (0 : Byte)).length ≤ 255 ∧ 255 < (List.replicate 256 (0 : Byte)).length := by decide
-- EncodeLaysOutFrame: the first and the last payload bit of a one-byte payload.
theorem witness_encode_bits :
    (frameBits [0x81])[8 + 8 * 0 + 0]? = some (([0x81] : Payload)[0].getLsbD (7 - 0)) ∧
      (frameBits [0x81])[8 + 8 * 0 + 7]? = some (([0x81] : Payload)[0].getLsbD (7 - 7)) := by decide
-- DecodeReadsFrameFields: 7 bits; a length field of 1 with 23 and with 24 bits.
theorem witness_decode_bounds :
    (List.replicate 7 false).length < 8 ∧
      (∀ k < 8, (msb8 0x01 ++ List.replicate 15 false)[k]? = some ((0x01 : Byte).getLsbD (7 - k))) ∧
      (msb8 0x01 ++ List.replicate 15 false).length < 16 + 8 * (0x01 : Byte).toNat ∧
      (∀ k < 8, (msb8 0x01 ++ List.replicate 16 false)[k]? = some ((0x01 : Byte).getLsbD (7 - k))) ∧
      16 + 8 * (0x01 : Byte).toNat ≤ (msb8 0x01 ++ List.replicate 16 false).length := by decide
-- DetectedSingleBitFlips: bits 0, 8 and the last of a frame (95 part 2: index 20 is a payload bit).
theorem witness_flip :
    frameEncode hi42 = some hi42Frame ∧ hi42Frame[0]? = some false ∧ 8 ≤ 20 ∧ 55 < hi42Frame.length := by decide
theorem witness_flip_20 :
    nextIs (exec (.decode (hi42Frame.modify 20 (!·))) base)
      (fun t => t.fnResult == .message ⟨5, [72, 97, 32, 52, 50], 55, false⟩) := by decide
-- HostInitGivesResetState, OnlyHostInitBeforeInitialisation: steps that exist there.
theorem witness_uninit :
    (State.powerOn cfg3).initDone = false ∧ base.initDone = true ∧
      nextIs (stepInput (.hostInit true false false) (State.powerOn cfg3)) (fun t => t.initDone) = true ∧
      nextIs (stepInput (.call ⟨.func, 2, 0, .payload []⟩) (State.powerOn cfg3)) (fun _ => true) = true := by decide
-- NothingUndoesInitialisation, HostSendLatchesOrRejects: a request that ends, and one that goes on.
theorem witness_request_ends :
    releasing.initDone = true ∧ releasing.hostReq.valid = true ∧
      nextIs (stepInput .tick releasing) (fun t => !t.hostReq.valid && t.events == [.sendResult .ok]) = true := by
  decide
theorem witness_request_times_out :
    waiting.hostReq.valid = true ∧
      nextIs (stepInput .tick waiting) (fun t => !t.hostReq.valid && t.events == [.sendResult .busBusyTimeout]) = true := by
  decide
theorem witness_request_goes_on :
    nextIs (stepInput (.pin .data true) waiting) (fun t => t.hostReq.valid) = true := by decide
-- PayloadTooLongOnlyAtHostSend.
set_option maxRecDepth 100000 in
theorem witness_too_long :
    nextIs (stepInput (.hostSend (List.replicate 256 0)) base)
      (fun t => t.events == base.events ++ [.sendResult .payloadTooLong]) = true := by decide
-- TxPollArbitratesTheBus: free; busy at the bound (2 + 1 = 3); busy below it (1 + 1 < 3).
set_option maxRecDepth 100000 in
theorem witness_txPoll :
    waiting.role = .receiving ∧ waiting.txph = .idle ∧ waiting.csIn = true ∧
      waiting.cfg.busFreeTimeoutPolls ≤ waiting.hostPolls + 1 ∧
      ({ waiting with hostPolls := 1 } : State).hostPolls + 1 < waiting.cfg.busFreeTimeoutPolls ∧
      ({ base with hostReq := ⟨true, List.replicate 255 0⟩ } : State).csIn = false := by decide
-- TxMicroStepsSetOneOutput, TxDataDrivesTheNextBit, TxClkLowCountsTheBit, TxReleaseReturnsToReceiving.
theorem witness_sending :
    sendingA.initDone = true ∧ sendingA.role = .sending ∧ sendingA.txph = .csAssert ∧
      sendingA.txidx < sendingA.txseq.length ∧ sendingA.txseq.length = 16 + 8 * 1 ∧ sendingA.txidx = 0 ∧
      22 + 1 ≠ sendingA.txseq.length ∧ 23 + 1 = sendingA.txseq.length ∧
      sendingA.txsrc = .host ∧ sendingA.cfg.retainOnSend = true ∧ sendingA.hostReq.p ≠ sentinel := by decide
-- TxMicroStepsSetOneOutput: each of its phases; TxReleaseReturnsToReceiving: each of its three cases.
theorem witness_micro_phases :
    ∀ ph ∈ [Phase.csAssert, .clkHigh, .csDeassert],
      ({ sendingA with txph := ph } : State).role = .sending ∧ ({ sendingA with txph := ph } : State).initDone = true := by
  decide
theorem witness_release :
    releasing.role = .sending ∧ releasing.txph = .release ∧ releasing.txsrc = .host ∧
      releasing.cfg.retainOnSend = true ∧ releasing.hostReq.p ≠ sentinel ∧
      ({ releasing with cfg := { cfg3 with retainOnSend := false } } : State).cfg.retainOnSend = false ∧
      ({ releasing with hostReq := ⟨true, sentinel⟩ } : State).hostReq.p = sentinel ∧
      ({ releasing with txsrc := .internal } : State).txsrc = .internal := by decide
-- IdleSequencerHasNoTick, TickSelectsThePhasesOperation's first clause, TickIsEnabledExactlyWithWork: no work; work.
theorem witness_idle :
    base.initDone = true ∧ base.role = .receiving ∧ base.hostReq.valid = false ∧ base.txph = .idle ∧ base.inputs = [] ∧
      nextIs (step base) (fun t => t == base) = true ∧ nextIs (stepInput .tick waiting) (fun _ => true) = true ∧
      nextIs (stepInput .tick releasing) (fun _ => true) = true ∧
      nextIs (stepInput (.hostSend []) base) (fun _ => true) = true := by decide
-- ShrinkingLengthFlipDecodesAPrefix (95 part 2: bit 6 of the frame of 00 07 decodes as a valid empty payload).
theorem witness_shrink :
    frameEncode [0x00, 0x07] = some (frameBits [0x00, 0x07]) ∧ (frameBits [0x00, 0x07])[6]? = some true ∧
      frameDecode ((frameBits [0x00, 0x07]).modify 6 (!·)) = .ok ⟨0, [], 0, true⟩ := by decide
-- FrameRunsToCompletion, OutputWaveform: the frame's operations, and a step of another agent in between.
theorem witness_frame_runs :
    (frameOps sendingA.txseq.length).length = 75 ∧ sendingA.oe = true ∧ sendingA.txseq ≠ [] ∧
      sendingA.clkOut = false ∧ sendingA.dataOut = false ∧ sendingA.csOut = false ∧
      nextIs (stepInput (.pin .cs true) releasing) (fun _ => true) = true := by decide
-- HostSendCompletesOnFreeBus.
theorem witness_free_bus : base.csIn = false ∧ hi42.length ≤ 255 ∧ hi42 ≠ sentinel := by decide
-- BusBusyTimeoutLeavesNoTrace.
theorem witness_timeout :
    cfg3.Valid ∧ (State.resetWith cfg3 true false false).csIn = true ∧
      nextIs (runInputs (.hostSend hi42 :: List.replicate 3 .tick) (State.resetWith cfg3 true false false))
        (fun t => t.events == [.sendResult .busBusyTimeout]) = true := by decide
-- CsRiseClearsTheBuffer, ClockRiseSamplesData (an empty and a full buffer), ClockFallAndDataOnlyTrack.
set_option maxRecDepth 100000 in
theorem witness_edges :
    base.irqEn = true ∧ base.csIn = false ∧ base.clkIn = false ∧
      (List.replicate 255 false).length < cfg3.maxBufferBits ∧
      cfg3.maxBufferBits ≤ (List.replicate 256 false).length ∧
      ({ base with clkIn := true } : State).clkIn = true := by decide
-- PinStepsTrackLevels: masked; steady low; steady high; Data.
theorem witness_track :
    sendingA.irqEn = false ∧ base.level .clk = false ∧ ({ base with clkIn := true } : State).level .clk = true ∧
      base.last.length ≤ 255 ∧ (Line.cs ≠ .data ∧ Line.clk ≠ .data) := by decide
-- CsFallDispatchesTheFrame: a buffer for each arm.
theorem witness_arms :
    frameDecode [true] = .error .incompleteFrame ∧
      frameDecode (msb8 0x00 ++ msb8 0x01) = .ok ⟨0, [], 1, false⟩ ∧
      frameDecode sentinelFrame = .ok ⟨5, sentinel, 0x8A, true⟩ ∧
      frameDecode hi42Frame = .ok ⟨5, hi42, 55, true⟩ ∧ hi42 ≠ sentinel := by decide
-- MaskedEdgesLeaveOnlyLevels.
theorem witness_masked_run :
    sendingA.initDone = true ∧ sendingA.irqEn = false ∧
      ∀ e ∈ [Input.pin .cs true, .pin .clk true], ∃ l v, e = .pin l v := by
  refine ⟨rfl, rfl, ?_⟩
  intro e he
  simp only [List.mem_cons, List.not_mem_nil, or_false] at he
  rcases he with rfl | rfl <;> exact ⟨_, _, rfl⟩
-- EdgeHandlersDoNotDrive.
theorem witness_no_fall :
    nextIs (stepInput (.pin .cs true) base) (fun _ => true) = true ∧
      ¬(Line.cs = .cs ∧ true = false ∧ base.csIn = true ∧ base.irqEn = true) := by decide
-- The statements about the arms: the precondition of FRAME_DONE, with and without a retained payload.
set_option maxRecDepth 100000 in
theorem witness_frame_end :
    base.atFrameEnd = true ∧ base.lastValid = false ∧
      ({ base with lastValid := true, last := List.replicate 255 0 } : State).atFrameEnd = true ∧
      (List.replicate 255 (0 : Byte)).length ≤ 255 := by decide
-- DispatchFollowsTheSelector and RoleTransitionsAreExactlyThese: the three ways to Sending.
theorem witness_to_sending :
    isMalformed [true] = true ∧ isValid sentinelFrame = true ∧ isSentinel sentinelFrame = true ∧
      nextIs (stepInput (.pin .cs false) waiting) (fun t => t.role == .sending) = true ∧
      nextIs (stepInput .tick { base with hostReq := ⟨true, []⟩ }) (fun t => t.role == .sending) = true := by decide
-- WaitingHostSendSurvivesInternalSend: an error reply, a resend.
theorem witness_waiting :
    waiting.role = .receiving ∧ waiting.hostReq.valid = true ∧ waiting.csIn = true ∧
      isMalformed waiting.rxbuf = true := by decide
theorem witness_waiting_resend :
    waitingResend.role = .receiving ∧ waitingResend.hostReq.valid = true ∧ waitingResend.csIn = true ∧
      isValid waitingResend.rxbuf = true ∧ isSentinel waitingResend.rxbuf = true ∧ waitingResend.lastValid = true := by
  decide
-- SamplerCapturesTheTransmission, ReceivedFrameIsDelivered, EachErrorResendsTheSentPayload: what fits exactly.
theorem witness_fits :
    framesFit cfg3 (List.replicate 30 0) ∧ framesFit cfg3 sentinel ∧ (List.replicate 30 (0 : Byte)) ≠ sentinel := by
  unfold framesFit
  decide
-- CorruptedFrameElicitsOneErrorFrame.
theorem witness_corrupted : isMalformed ((hi42Frame.modify 20 (!·)).take cfg3.maxBufferBits) = true := by decide
-- OversizeFrameIsAnsweredWithError: one byte too many.
theorem witness_oversize : ¬framesFit cfg3 (List.replicate 31 0) ∧ (List.replicate 31 (0 : Byte)).length ≤ 255 := by
  unfold framesFit
  decide
-- LastIsWrittenOnlyByDeliveryAndRelease: both writers.
theorem witness_last_written :
    nextIs (stepInput .tick releasing) (fun t => t.last != releasing.last) = true ∧
      nextIs (stepInput (.pin .cs false) { base with csIn := true, rxbuf := hi42Frame })
        (fun t => t.last != base.last) = true := by decide
-- UnspecifiedRegistersAreNeverRead.
theorem witness_unspecified :
    base.lastValid = false ∧ base.hostReq.valid = false ∧
      nextIs (stepInput (.hostSend hi42) base) (fun t => t.hostReq.valid) = true := by decide
-- TickSelectsThePhasesOperation.
theorem witness_phases :
    (base.role = .receiving ↔ base.txph = .idle) ∧ (sendingA.role = .receiving ↔ sendingA.txph = .idle) := by decide
-- StepRunsTheSelectedOperation: an input of the alphabet, a call, a call that is refused.
theorem witness_step :
    (base.pushInput (.pin .cs true)).nextInput = some (.pin .cs true) ∧ base.nextInput = none ∧
      waiting.nextInput = some .tick ∧ base.initDone = true ∧ (State.powerOn cfg3).nextInput = none ∧
      decode (inputWord (.pin .cs true) base) = .ok .evCsRise ∧
      decode ⟨.func, 2, 0, .payload []⟩ = .ok (.checksum []) ∧ callable (.checksum []) = true ∧
      selected (.call ⟨.func, 2, 3, .none⟩) base = .error .functionUnused := by decide
-- DecodeEncodeAgree, TableRowsAreDisjoint.
theorem witness_words :
    (Instr.evMasked .clk true).wf = true ∧ decode (encode (.evSteadyHigh .cs)) = .ok (.evSteadyHigh .cs) ∧
      (Row.mk .evCsRise .pin 6 0b001001 0b111111).matchesWord .pin 6 0b001001 = true := by decide
-- StepKeepsInvariant, NoErrorStopsTheMachine, ParametersNeverChange: a step from a state with the invariant.
theorem witness_inv_step : nextIs (step base) (fun _ => true) = true ∧
    nextIs (stepInput (.hostSend hi42) base) (fun _ => true) = true := by decide
-- ReachableStatesMeetSpecInvariants.
theorem witness_reachable : Reachable ((State.powerOn cfg3).initialise true false false) :=
  .init (s := State.powerOn cfg3) (c := true) (k := false) (d := false) (by decide) rfl (by decide) (by decide) rfl
-- CleanExchangeBetweenTwoFramers, CollisionLosesBothMessages.
theorem witness_exchange : framesFit cfg3 hi42 ∧ hi42 ≠ sentinel ∧ ([89, 111, 32, 49, 55] : Payload).length = hi42.length := by
  unfold framesFit
  decide
-- LineLevelOfTwoDrivers.
theorem witness_drive : sendingA.initDone = true ∧ sendingA.oe = true ∧ sendingA.drive .cs = some false := by decide

end Sys2Proof.Tests
end

section
/-! PROOFS. The machine before `HOST_INIT` (R24, R181). -/

namespace Sys2Proof.Machine

/-- The operations that can answer a next state while `INIT_DONE = 0`: `HOST_INIT` and the codec functions. -/
def uninitOps : List Op := [.hostInit, .checksum, .encode, .decode]

/-- Before `HOST_INIT` every operation outside `uninitOps` is refused. -/
theorem exec_next_uninit {i : Instr} {s t : State} (hd : s.initDone = false) (h : exec i s = .next t) :
    i.op ∈ uninitOps := by
  cases i with
  | hostInit | checksum | encode | decode => simp [Instr.op, uninitOps]
  | tickNone => simp [exec, execTickNone, hd] at h
  | _ =>
    have hi : s.initDone = true := (whenEnabled_next.mp h).1
    simp [hi] at hd

/-- Only a host or a function selector decodes to an operation of `uninitOps`. -/
theorem format_of_decode_uninitOps {w : OpWord} {i : Instr} (h : decode w = .ok i) (ho : i.op ∈ uninitOps) :
    w.format = .host ∨ w.format = .func := by
  obtain ⟨r, hr, hb, -⟩ := decode_ok h
  obtain ⟨hmem, hm⟩ := findRow_some hr
  have hf : r.format = w.format := by
    simp only [Row.matchesWord, Bool.and_eq_true, beq_iff_eq] at hm
    obtain ⟨⟨⟨hf, -⟩, -⟩, -⟩ := hm
    exact hf
  have hrows : ∀ r ∈ tableRows, r.op ∈ uninitOps → r.format = .host ∨ r.format = .func := by decide
  exact hf ▸ hrows r hmem (build_op hb ▸ ho)

/-- Before `HOST_INIT` a step of the alphabet that answers a next state is a `HOST_INIT` (R24, R181). -/
theorem stepInput_next_uninit {e : Input} {s t : State} (hd : s.initDone = false) (hc : ∀ w, e ≠ .call w)
    (h : stepInput e s = .next t) : ∃ c k d, e = .hostInit c k d := by
  obtain ⟨i, hi, hx⟩ := stepInput_next h
  have ho : i.op ∈ uninitOps := exec_next_uninit hd hx
  cases e with
  | hostInit c k d => exact ⟨c, k, d, rfl⟩
  | call w => exact absurd rfl (hc w)
  | hostSend p =>
    rw [selected_hostSend] at hi
    cases hi
    exact absurd ho (show Op.hostSend ∉ uninitOps by decide)
  | pin | tick => simpa [inputWord] using format_of_decode_uninitOps hi ho

/-- Before `HOST_INIT` the framer drives no line (R181). -/
theorem drive_uninit {s : State} (hd : s.initDone = false) (l : Line) : s.drive l = none := by
  simp [State.drive, hd]

/-- Settles O11, by what can answer a next state before `HOST_INIT` and the selectors that reach it. -/
theorem onlyHostInitBeforeInitialisation : Obligations.OnlyHostInitBeforeInitialisation := by
  intro s hd
  exact ⟨fun _ _ hc h => stepInput_next_uninit hd hc h, fun _ _ h => stepInput_call h, drive_uninit hd⟩

end Sys2Proof.Machine
end

section
/-! PROOFS. No selector matches two rows of the operation table (R77, R78, R79). -/

namespace Sys2Proof

/-- Two rows of one format and width have a bit that both fix, to different values. -/
abbrev Row.DisjointFrom (r r' : Row) : Prop :=
  r.format = r'.format → r.width = r'.width → r.fixed &&& r'.mask ≠ r'.fixed &&& r.mask

theorem matchesWord_iff {r : Row} {f : Format} {n v : Nat} :
    r.matchesWord f n v = true ↔ r.format = f ∧ r.width = n ∧ v < 2 ^ n ∧ v &&& r.mask = r.fixed := by
  simp [Row.matchesWord, and_assoc]

/-- Rows that both match one selector agree on every bit that both fix. -/
theorem not_disjointFrom_of_matchesWord {r r' : Row} {f : Format} {n v : Nat} (h : r.matchesWord f n v = true)
    (h' : r'.matchesWord f n v = true) : ¬ r.DisjointFrom r' := by
  obtain ⟨hf, hn, -, hv⟩ := matchesWord_iff.mp h
  obtain ⟨hf', hn', -, hv'⟩ := matchesWord_iff.mp h'
  intro hd
  refine hd (hf.trans hf'.symm) (hn.trans hn'.symm) ?_
  rw [← hv, ← hv', Nat.and_right_comm]

theorem tableRows_pairwise_disjoint : tableRows.Pairwise Row.DisjointFrom := by
  decide

/-- A selector that finds a row matches that row and no other. -/
theorem filter_matchesWord_of_findRow {f : Format} {n v : Nat} {r : Row} (h : findRow f n v = some r) :
    tableRows.filter (·.matchesWord f n v) = [r] := by
  have hr : r ∈ tableRows.filter (·.matchesWord f n v) := List.mem_filter.mpr (findRow_some h)
  have hm : ∀ r' ∈ tableRows.filter (·.matchesWord f n v), r'.matchesWord f n v = true :=
    fun r' h' => (List.mem_filter.mp h').2
  have hp := tableRows_pairwise_disjoint.filter (·.matchesWord f n v)
  generalize tableRows.filter (·.matchesWord f n v) = rows at hr hm hp
  match rows with
  | [] => cases hr
  | [r'] => rw [List.mem_singleton.mp hr]
  | r₁ :: r₂ :: rest =>
    have hd : r₁.DisjointFrom r₂ := List.rel_of_pairwise_cons hp (by simp)
    exact absurd hd (not_disjointFrom_of_matchesWord (hm r₁ (by simp)) (hm r₂ (by simp)))

end Sys2Proof
end

section
/-! PROOFS. The selection of a pin step and of a `TICK` (R77, R78). -/

namespace Sys2Proof.Machine

/-- The selector of a pin step that selects an operation matches one row. -/
theorem length_filter_pin_of_selected {l : Line} {v : Bit} {s : State} {i : Instr}
    (h : selected (.pin l v) s = .ok i) :
    (tableRows.filter (·.matchesWord .pin 6 (pinSelector l v s))).length = 1 := by
  obtain ⟨r, hr, -⟩ := decode_ok (w := inputWord (.pin l v) s) h
  exact congrArg List.length (filter_matchesWord_of_findRow hr)

/-- Settles O44: the operation by the line's own selection law, and the one row because an operation is selected. -/
theorem pinStepSelectsOneOperation : Obligations.PinStepSelectsOneOperation := by
  intro l v s
  refine (and_iff_right_of_imp length_filter_pin_of_selected).mpr ?_
  cases l with
  | data => exact selected_data v s
  | cs =>
    rw [selected_cs]
    cases s.irqEn <;> cases h : s.csIn <;> cases v <;> simp [State.level, h]
  | clk =>
    rw [selected_clk]
    cases s.irqEn <;> cases h : s.clkIn <;> cases v <;> simp [State.level, h]

/-- Settles O45, by the role: `Receiving` is idle, and `Sending` is at the micro-step of its phase. -/
theorem tickSelectsThePhasesOperation : Obligations.TickSelectsThePhasesOperation := by
  intro s ha
  refine ⟨fun hp hv => stepInput_tick_disabled (by simp [State.tickEnabled, ha.mpr hp, hv]), ?_⟩
  cases hr : s.role with
  | receiving =>
    have hp : s.txph = .idle := ha.mp hr
    rw [selected_tick_receiving hr hp, hp]
  | sending =>
    have hp : s.txph ≠ .idle := fun h => by simp [ha.mpr h] at hr
    rw [selected_tick_sending hr]
    cases hq : s.txph with
    | idle => exact absurd hq hp
    | _ => rfl

end Sys2Proof.Machine
end

section
/-! PROOFS. The frame-done dispatch and its selector `Q` (R79, R132). -/

namespace Sys2Proof.Machine

/-! The places of `Q` for a buffer that decodes. -/

theorem isComplete_iff {b : BitSeq} : isComplete b = true ↔ ∃ m, frameDecode b = .ok m := by
  unfold isComplete
  cases frameDecode b <;> simp

theorem isValid_of_ok {b : BitSeq} {m : Message} (h : frameDecode b = .ok m) : isValid b = m.valid := by
  simp [isValid, h]

theorem isSentinel_of_ok {b : BitSeq} {m : Message} (h : frameDecode b = .ok m) :
    isSentinel b = (m.payload == sentinel) := by
  simp [isSentinel, h]

/-- Five bits as one number, the first the most significant: its size and its bits. -/
theorem testBit_fiveBits (a b c d e : Bit) :
    let q := a.toNat * 16 + b.toNat * 8 + c.toNat * 4 + d.toNat * 2 + e.toNat
    q < 32 ∧ q.testBit 4 = a ∧ q.testBit 3 = b ∧ q.testBit 2 = c ∧ q.testBit 1 = d ∧ q.testBit 0 = e := by
  revert a b c d e
  decide

/-- The table's reading of `Q`: the tests in the order empty, incomplete, invalid, sentinel, retained. -/
theorem findRow_fd_op (nonempty complete valid isSent lastValid : Bit) :
    (findRow .fd 5 (nonempty.toNat * 16 + complete.toNat * 8 + valid.toNat * 4 + isSent.toNat * 2
      + lastValid.toNat)).map Row.op =
    some (if !nonempty then .fdEmpty
      else if !complete then .fdErrorReplyIncomplete
      else if !valid then .fdErrorReplyMismatch
      else if !isSent then .fdDeliver
      else if lastValid then .fdResend else .fdResendNone) := by
  revert nonempty complete valid isSent lastValid
  decide

/-- The operation of the dispatch on a buffer, in the order of `FRAME_DONE`'s tests (R132). -/
def fdArm (b : BitSeq) (lastValid : Bit) : Instr :=
  if b.isEmpty then .fdEmpty
  else
    match frameDecode b with
    | .error _ => .fdErrorReplyIncomplete
    | .ok m =>
      if !m.valid then .fdErrorReplyMismatch
      else if m.payload = sentinel then (if lastValid then .fdResend else .fdResendNone)
      else .fdDeliver m.payload

/-- The row that `Q` finds is the row of the dispatch's operation. -/
theorem findRow_fdSelector (b : BitSeq) (lastValid : Bit) :
    ∃ r, findRow .fd 5 (fdSelector b lastValid) = some r ∧ (fdArm b lastValid).op = r.op := by
  have hop : (findRow .fd 5 (fdSelector b lastValid)).map Row.op = some (fdArm b lastValid).op := by
    rw [fdSelector, findRow_fd_op, fdArm]
    cases b with
    | nil => rfl
    | cons x xs =>
      cases hd : frameDecode (x :: xs) with
      | error e => simp [isComplete, hd, Instr.op]
      | ok m =>
        rw [isComplete_iff.mpr ⟨m, hd⟩, isValid_of_ok hd, isSentinel_of_ok hd]
        cases hv : m.valid with
        | false => simp [hv, Instr.op]
        | true =>
          by_cases hp : m.payload = sentinel
          · cases lastValid <;> simp [hv, hp, Instr.op]
          · simp [hv, hp, Instr.op]
  obtain ⟨r, hr, ho⟩ := Option.map_eq_some_iff.mp hop
  exact ⟨r, hr, ho.symm⟩

/-- The operand of a delivery is the decoded payload. -/
theorem fdArm_eq_fdDeliver {b : BitSeq} {lastValid : Bit} {p : Payload} (h : fdArm b lastValid = .fdDeliver p) :
    ∃ m, frameDecode b = .ok m ∧ m.payload = p := by
  unfold fdArm at h
  split at h
  · cases h
  split at h
  · cases h
  next m hd =>
    split at h
    · cases h
    split at h
    · split at h <;> cases h
    · cases h
      exact ⟨m, hd, rfl⟩

/-- At the end of a frame `FRAME_DONE` performs the operation of the dispatch, and that operation is well formed. -/
theorem exec_fdArm {s : State} (hi : s.initDone = true) (ha : s.atFrameEnd = true) (b : BitSeq) :
    (fdArm b s.lastValid).wf = true ∧ exec (fdArm b s.lastValid) s = frameDone b s := by
  unfold fdArm frameDone
  split
  · exact ⟨rfl, whenEnabled_of hi ha⟩
  cases hd : frameDecode b with
  | error e => exact ⟨rfl, whenEnabled_of hi ha⟩
  | ok m =>
    simp only
    split
    · exact ⟨rfl, whenEnabled_of hi ha⟩
    split
    · cases hl : s.lastValid with
      | true => exact ⟨rfl, whenEnabled_of hi (by simp [ha, hl])⟩
      | false => exact ⟨rfl, whenEnabled_of hi (by simp [ha, hl])⟩
    next hp =>
      have hf : fitsFrame m.payload = true := decide_eq_true (frameDecode_payload_fits hd)
      exact ⟨by simp [Instr.wf, hf, hp], whenEnabled_of hi (by simp [ha, hf, hp])⟩

/-- Settles O35: the places of `Q` are its five bits, and the row that `Q` finds is that of the operation that
`FRAME_DONE` performs. -/
theorem dispatchFollowsTheSelector : Obligations.DispatchFollowsTheSelector := by
  intro s b hi ha
  obtain ⟨hlt, hnonempty, hcomplete, hvalid, hsentinel, hlast⟩ :=
    testBit_fiveBits (!b.isEmpty) (isComplete b) (isValid b) (isSentinel b) s.lastValid
  obtain ⟨r, hr, ho⟩ := findRow_fdSelector b s.lastValid
  obtain ⟨hw, hx⟩ := exec_fdArm hi ha b
  refine ⟨hlt, ?_, fun _ => ?_, fun m hd => ⟨?_, ?_⟩, hlast, r, fdArm b s.lastValid, hr, ?_, ho, hw, hx,
    fun _ => fdArm_eq_fdDeliver⟩
  · rw [fdSelector, hnonempty]; simp [List.length_pos_iff]
  · rw [fdSelector, hcomplete]; exact isComplete_iff
  · rw [fdSelector, hvalid]; exact isValid_of_ok hd
  · rw [fdSelector, hsentinel, isSentinel_of_ok hd]; exact beq_iff_eq
  · exact congrArg List.length (filter_matchesWord_of_findRow hr)

end Sys2Proof.Machine
end

section
/-! PROOFS. Byte fields bit by bit, and the codec functions `CHECKSUM` and `DECODE` (R90, R92). -/

namespace Sys2Proof.Machine

/-- Bit `k` of a byte written most significant bit first (R53). -/
theorem getElem?_msb8 (v : Byte) {k : Nat} (hk : k < 8) : (msb8 v)[k]? = some (v.getLsbD (7 - k)) := by
  interval_cases k <;> rfl

theorem length_slice_of_le {b : BitSeq} {i n : Nat} (h : i + n ≤ b.length) : (slice b i n).length = n := by
  simp only [slice, List.length_take, List.length_drop]
  omega

theorem getElem?_slice (b : BitSeq) (i : Nat) {n k : Nat} (hk : k < n) : (slice b i n)[k]? = b[i + k]? := by
  simp [slice, hk]

/-- The bits of the byte field that starts at bit `i`, the most significant first (R52, R73). -/
theorem getElem?_eq_byteAt {b : BitSeq} {i k : Nat} (h : i + 8 ≤ b.length) (hk : k < 8) :
    b[i + k]? = some ((byteAt b i).getLsbD (7 - k)) := by
  have hm : msb8 (byteAt b i) = slice b i 8 := msb8_val8 (length_slice_of_le h)
  rw [← getElem?_msb8 _ hk, hm, getElem?_slice b i hk]

/-- The bits of a byte field determine its value (R73). -/
theorem byteAt_eq_of_bits {b : BitSeq} {i : Nat} {v : Byte} (h : i + 8 ≤ b.length)
    (hv : ∀ k < 8, b[i + k]? = some (v.getLsbD (7 - k))) : byteAt b i = v := by
  refine BitVec.eq_of_getLsbD_eq fun j hj => ?_
  have hk : 7 - j < 8 := by omega
  have hbits := (getElem?_eq_byteAt h hk).symm.trans (hv (7 - j) hk)
  rwa [Option.some.injEq, Nat.sub_sub_self (by omega)] at hbits

/-- The length field of a frame, read bit by bit (R71). -/
theorem byteAt_zero_eq_of_bits {b : BitSeq} {L : Byte} (hL : ∀ k < 8, b[k]? = some (L.getLsbD (7 - k))) :
    8 ≤ b.length ∧ byteAt b 0 = L := by
  have h8 : 8 ≤ b.length := (List.getElem?_eq_some_iff.mp (hL 7 (by decide))).1
  exact ⟨h8, byteAt_eq_of_bits (by omega) (by simpa using hL)⟩

@[simp] theorem getElem_payloadOf (b : BitSeq) (L : Nat) {i : Nat} (h : i < (payloadOf b L).length) :
    (payloadOf b L)[i] = byteAt b (8 + 8 * i) := by
  simp [payloadOf]

/-- The checksum is the sum of the byte values modulo 256 (R90). -/
theorem checksum_toNat (p : Payload) : (checksum p).toNat = (p.map BitVec.toNat).sum % 256 := by
  simp [checksum, foldl_add_toNat]

theorem decodeResult_of_error {b : BitSeq} {e : DecodeError} (h : frameDecode b = .error e) :
    decodeResult b = .decodeError e := by
  simp [decodeResult, h]

theorem decodeResult_of_ok {b : BitSeq} {m : Message} (h : frameDecode b = .ok m) : decodeResult b = .message m := by
  simp [decodeResult, h]

/-- Settles O1: `CHECKSUM` writes `checksum p` to the result port alone, and its value is the byte sum. -/
theorem checksumIsByteSumModulo256 : Obligations.ChecksumIsByteSumModulo256 :=
  fun p _ => ⟨checksum p, rfl, checksum_toNat p⟩

/-- Settles O3, by the two answers of `DECODE`; the length bits of the statement fix the byte field at bit 0. -/
theorem decodeReadsFrameFields : Obligations.DecodeReadsFrameFields := by
  intro b s
  refine ⟨decodeResult b, rfl, ?_⟩
  rcases frameDecode_cases b with ⟨herr, hshort⟩ | ⟨hok, hlong⟩
  · have hr := decodeResult_of_error herr
    refine ⟨fun _ => hr, fun L hL => ⟨fun _ => hr, fun hlen => ?_⟩⟩
    obtain ⟨h8, rfl⟩ := byteAt_zero_eq_of_bits hL
    simp only [frameLength] at hshort
    omega
  · simp only [frameLength] at hlong
    refine ⟨fun h8 => by omega, fun L hL => ?_⟩
    obtain ⟨-, rfl⟩ := byteAt_zero_eq_of_bits hL
    refine ⟨fun hlt => by omega, fun _ =>
      ⟨_, decodeResult_of_ok hok, rfl, length_payloadOf _ _, fun i hi k hk => ?_, fun k hk => ?_, ?_⟩⟩
    · have hiL : i < (byteAt b 0).toNat := by simpa using hi
      rw [getElem_payloadOf]
      exact getElem?_eq_byteAt (by omega) hk
    · exact getElem?_eq_byteAt (by omega) hk
    · rw [beq_iff_eq, ← checksum_toNat, BitVec.toNat_inj]

end Sys2Proof.Machine
end

section
/-! PROOFS. The micro-steps of the Bit Clock Driver, one rule for each outcome (R101, R103 to R108, R110). -/

namespace Sys2Proof.Machine

theorem polling_iff {s : State} :
    s.polling = true ↔ s.role = .receiving ∧ s.hostReq.valid = true ∧ s.txph = .idle := by
  simp [State.polling, and_assoc]

theorem atPhase_iff {s : State} {p : Phase} : s.atPhase p = true ↔ s.role = .sending ∧ s.txph = p := by
  simp [State.atPhase]

theorem retains_iff {s : State} : s.retains = true ↔ s.cfg.retainOnSend = true ∧ s.hostReq.p ≠ sentinel := by
  simp [State.retains]

theorem tickEnabled_eq_false {s : State} (hr : s.role = .receiving) (hv : s.hostReq.valid = false) :
    s.tickEnabled = false := by
  simp [State.tickEnabled, hr, hv]

section Poll

variable {s : State} (hd : s.initDone = true) (hp : s.polling = true)
include hd hp

/-- A poll of a free bus acquires it with the frame of the request (R101, R102). -/
theorem exec_txPoll_free (hc : s.csIn = false) (hf : s.hostReq.p.length ≤ maxPayload) :
    exec .txPoll s = .next (s.acquire (frameBits s.hostReq.p) .host) := by
  refine (whenEnabled_of hd hp).trans ?_
  rw [hc]
  exact sendFrame_of hf .host s

/-- A busy poll at the bound gives the send up (R101). -/
theorem exec_txPoll_exhausted (hc : s.csIn = true) (hn : s.cfg.busFreeTimeoutPolls ≤ s.hostPolls + 1) :
    exec .txPoll s = .next (s.raise .busBusyTimeout).clearRequest := by
  refine (whenEnabled_of hd hp).trans ?_
  simp [hc, State.pollsExhausted, hn]

/-- A busy poll below the bound is counted (R101). -/
theorem exec_txPoll_busy (hc : s.csIn = true) (hn : s.hostPolls + 1 < s.cfg.busFreeTimeoutPolls) :
    exec .txPoll s = .next { s with hostPolls := s.hostPolls + 1 } := by
  refine (whenEnabled_of hd hp).trans ?_
  simp [hc, State.pollsExhausted, hn]

end Poll

section MicroSteps

variable {s : State} (hd : s.initDone = true) (hr : s.role = .sending)
include hd hr

theorem exec_txCsAssert (hp : s.txph = .csAssert) :
    exec .txCsAssert s = .next { s with csOut := true, txph := .data } :=
  whenEnabled_of hd (atPhase_iff.mpr ⟨hr, hp⟩)

theorem exec_txData (hp : s.txph = .data) (h : s.txidx < s.txseq.length) :
    exec .txData s = .next { s with dataOut := s.txseq[s.txidx], txph := .clkHigh } := by
  refine (whenEnabled_of hd (atPhase_iff.mpr ⟨hr, hp⟩)).trans ?_
  rw [List.getElem?_eq_getElem h]

theorem exec_txClkHigh (hp : s.txph = .clkHigh) :
    exec .txClkHigh s = .next { s with clkOut := true, txph := .clkLow } :=
  whenEnabled_of hd (atPhase_iff.mpr ⟨hr, hp⟩)

theorem exec_txClkLow (hp : s.txph = .clkLow) :
    exec .txClkLow s = .next
      { s with
        clkOut := false
        txidx := s.txidx + 1
        txph := if s.txidx + 1 = s.txseq.length then .csDeassert else .data } :=
  whenEnabled_of hd (atPhase_iff.mpr ⟨hr, hp⟩)

theorem exec_txCsDeassert (hp : s.txph = .csDeassert) :
    exec .txCsDeassert s = .next { s with csOut := false, txph := .release } :=
  whenEnabled_of hd (atPhase_iff.mpr ⟨hr, hp⟩)

theorem exec_txRelease_host (hp : s.txph = .release) (hs : s.txsrc = .host) :
    exec .txRelease s = .next s.releaseBus.finishHostSend := by
  refine (whenEnabled_of hd (atPhase_iff.mpr ⟨hr, hp⟩)).trans ?_
  rw [hs]

theorem exec_txRelease_internal (hp : s.txph = .release) (hs : s.txsrc = .internal) :
    exec .txRelease s = .next s.releaseBus := by
  refine (whenEnabled_of hd (atPhase_iff.mpr ⟨hr, hp⟩)).trans ?_
  rw [hs]

/-- Whichever kind of send ends, `TX_RELEASE` returns to `Receiving` with the lines released (R108). -/
theorem exec_txRelease_returns (hp : s.txph = .release) :
    ∃ t, exec .txRelease s = .next t ∧
      t.role = .receiving ∧ t.txph = .idle ∧ t.oe = false ∧ t.irqEn = true := by
  cases hs : s.txsrc with
  | host => exact ⟨_, exec_txRelease_host hd hr hp hs, by simp [finishHostSend_eq]⟩
  | internal => exact ⟨_, exec_txRelease_internal hd hr hp hs, by simp⟩

end MicroSteps

theorem exec_tickNone {s : State} (hd : s.initDone = true) : exec .tickNone s = .refused .noTickStep :=
  if_pos hd

/-- Settles O12, by the three outcomes of a poll. -/
theorem txPollArbitratesTheBus : Obligations.TxPollArbitratesTheBus := by
  intro s hd hr hv hp hf
  have hpoll : s.polling = true := polling_iff.mpr ⟨hr, hv, hp⟩
  exact ⟨fun hc => exec_txPoll_free hd hpoll hc hf, fun hc hn => exec_txPoll_exhausted hd hpoll hc hn,
    fun hc hn => exec_txPoll_busy hd hpoll hc hn⟩

/-- Settles O13, by the rules of the three micro-steps. -/
theorem txMicroStepsSetOneOutput : Obligations.TxMicroStepsSetOneOutput :=
  fun _ hd hr => ⟨exec_txCsAssert hd hr, exec_txClkHigh hd hr, exec_txCsDeassert hd hr⟩

/-- Settles O14, by the rule of `TX_DATA`. -/
theorem txDataDrivesTheNextBit : Obligations.TxDataDrivesTheNextBit :=
  fun _ h hd hr hp => exec_txData hd hr hp h

/-- Settles O15, by the two answers of the loop test. -/
theorem txClkLowCountsTheBit : Obligations.TxClkLowCountsTheBit := by
  intro s hd hr hp
  refine ⟨fun hlast => ?_, fun hmore => ?_⟩
  · rw [exec_txClkLow hd hr hp, if_pos hlast]
  · rw [exec_txClkLow hd hr hp, if_neg hmore]

/-- Settles O16, by the kind of send and, for a host send, whether it is retained. -/
theorem txReleaseReturnsToReceiving : Obligations.TxReleaseReturnsToReceiving := by
  intro s hd hr hp
  refine ⟨fun hs hret hne => ?_, fun hs hno => ?_, exec_txRelease_internal hd hr hp⟩
  · have hk : s.releaseBus.retains = true := retains_iff.mpr ⟨hret, hne⟩
    rw [exec_txRelease_host hd hr hp hs, finishHostSend_eq, hk]
    rfl
  · have hk : s.releaseBus.retains = false := by
      rw [← Bool.not_eq_true, retains_iff]
      rintro ⟨hret, hne⟩
      exact hno.elim (fun h => by simp [h] at hret) hne
    rw [exec_txRelease_host hd hr hp hs, finishHostSend_eq, hk]
    rfl

/-- Settles O17: the selector of an idle framer is that of `TICK_NONE`, and without an input no `TICK` is taken. -/
theorem idleSequencerHasNoTick : Obligations.IdleSequencerHasNoTick := by
  intro s hd
  refine ⟨exec_tickNone hd, fun hr hv hp => ⟨?_, fun hin => ?_⟩⟩
  · rw [stepInput_of_selected (selected_tick_receiving hr hp), hv]
    exact exec_tickNone hd
  · exact step_idle (nextInput_eq_none.mpr ⟨hin, tickEnabled_eq_false hr hv⟩)

end Sys2Proof.Machine
end

section
/-! PROOFS. When a `TICK` is enabled, and what a step of another agent can do (R109, R110). -/

namespace Sys2Proof.Machine

/-- With the invariant, a `TICK` while `Sending` completes: the phase has a micro-step, and `TX_DATA` finds a bit. -/
theorem stepInput_tick_sending {s : State} (hinv : s.Inv) (hd : s.initDone = true) (hr : s.role = .sending) :
    ∃ t, stepInput .tick s = .next t := by
  have hphase := hinv.phase hd
  obtain ⟨-, -, hidle⟩ := (hinv.spec hd).roleAgrees
  have hsel := selected_tick_sending hr
  unfold State.phaseAgrees at hphase
  cases hp : s.txph <;> rw [hp] at hsel hphase
  case idle => simp [hr, hp] at hidle
  case csAssert => exact ⟨_, (stepInput_of_selected hsel).trans (exec_txCsAssert hd hr hp)⟩
  case data =>
    obtain ⟨hlt, -, -⟩ := hphase
    exact ⟨_, (stepInput_of_selected hsel).trans (exec_txData hd hr hp hlt)⟩
  case clkHigh => exact ⟨_, (stepInput_of_selected hsel).trans (exec_txClkHigh hd hr hp)⟩
  case clkLow => exact ⟨_, (stepInput_of_selected hsel).trans (exec_txClkLow hd hr hp)⟩
  case csDeassert => exact ⟨_, (stepInput_of_selected hsel).trans (exec_txCsDeassert hd hr hp)⟩
  case release =>
    obtain ⟨t, ht, -⟩ := exec_txRelease_returns hd hr hp
    exact ⟨t, (stepInput_of_selected hsel).trans ht⟩

/-- With the invariant, a `TICK` while a request waits in `Receiving` is a poll that completes. -/
theorem stepInput_tick_waiting {s : State} (hinv : s.Inv) (hd : s.initDone = true) (hr : s.role = .receiving)
    (hv : s.hostReq.valid = true) : ∃ t, stepInput .tick s = .next t := by
  obtain ⟨-, -, hidle⟩ := (hinv.spec hd).roleAgrees
  have hp : s.txph = .idle := hidle.mp hr
  have hpoll : s.polling = true := polling_iff.mpr ⟨hr, hv, hp⟩
  rw [stepInput_of_selected (selected_tick_receiving hr hp), hv]
  cases hc : s.csIn with
  | false => exact ⟨_, exec_txPoll_free hd hpoll hc hinv.requestFits⟩
  | true =>
    rcases Nat.lt_or_ge (s.hostPolls + 1) s.cfg.busFreeTimeoutPolls with hn | hn
    · exact ⟨_, exec_txPoll_busy hd hpoll hc hn⟩
    · exact ⟨_, exec_txPoll_exhausted hd hpoll hc hn⟩

theorem stepInput_hostInit_initialised {s : State} (hd : s.initDone = true) (c k d : Bit) :
    stepInput (.hostInit c k d) s = .refused .notEnabled :=
  (stepInput_of_selected (selected_hostInit c k d s)).trans (if_pos hd)

/-- What a host send that completes did (R100): it latched its request, or raised `PayloadTooLong`. -/
theorem stepInput_hostSend_next {p : Payload} {s t : State} (h : stepInput (.hostSend p) s = .next t) :
    (p.length ≤ maxPayload ∧ t = { s with hostReq := ⟨true, p⟩, hostPolls := 0 }) ∨
      (maxPayload < p.length ∧ t = s.raise .payloadTooLong) := by
  rw [stepInput_of_selected (selected_hostSend p s)] at h
  obtain ⟨-, -, hk⟩ := whenEnabled_next.mp h
  split at hk <;> cases hk
  next hlong => exact .inr ⟨hlong, rfl⟩
  next hfits => exact .inl ⟨by omega, rfl⟩

/-- While the handlers are masked a pin step only tracks its level (R120, R125). -/
theorem stepInput_pin_masked {s : State} (hd : s.initDone = true) (hm : s.irqEn = false) (l : Line) (v : Bit) :
    stepInput (.pin l v) s = .next (s.setLevel l v) := by
  cases l with
  | data => exact (stepInput_of_selected (selected_data v s)).trans (whenEnabled_of hd rfl)
  | cs =>
    rw [stepInput_of_selected (selected_cs v s), hm]
    exact whenEnabled_of hd (by simp [hm, Line.hasHandler])
  | clk =>
    rw [stepInput_of_selected (selected_clk v s), hm]
    exact whenEnabled_of hd (by simp [hm, Line.hasHandler])

/-- Settles O59: with work a `TICK` completes under the invariant; without, no `TICK` and no `HOST_INIT` does. -/
theorem tickIsEnabledExactlyWithWork : Obligations.TickIsEnabledExactlyWithWork := by
  intro s hinv hd
  refine ⟨⟨fun ⟨t, ht⟩ => ?_, ?_⟩, fun hr hv e t hcall ht => ?_⟩
  · cases hr : s.role with
    | sending => exact .inl rfl
    | receiving =>
      cases hv : s.hostReq.valid with
      | true => exact .inr ⟨rfl, rfl⟩
      | false => exact absurd ht (stepInput_tick_disabled (tickEnabled_eq_false hr hv) t)
  · rintro (hr | ⟨hr, hv⟩)
    · exact stepInput_tick_sending hinv hd hr
    · exact stepInput_tick_waiting hinv hd hr hv
  · cases e with
    | hostSend p => exact .inl ⟨p, rfl⟩
    | pin l v => exact .inr ⟨l, v, rfl⟩
    | call w => exact absurd rfl (hcall w)
    | tick => exact absurd ht (stepInput_tick_disabled (tickEnabled_eq_false hr hv) t)
    | hostInit c k d =>
      rw [stepInput_hostInit_initialised hd] at ht
      cases ht

end Sys2Proof.Machine
end

section
/-! PROOFS. The ticks of one frame (R109): after the tick of `TX_CS_ASSERT` the framer stands at bit 0, three ticks
take it from each bit to the next, and two more release the bus. -/

namespace Sys2Proof.Machine

/-- The ticks from `s` to `t` perform these operations, the role being `Sending` before each. -/
inductive TickRun : List Instr → State → State → Prop where
  | nil (s : State) : TickRun [] s s
  | cons {i : Instr} {is : List Instr} {s u t : State} (sending : s.role = .sending)
      (select : selected .tick s = .ok i) (run : exec i s = .next u) (rest : TickRun is u t) : TickRun (i :: is) s t

theorem TickRun.single {i : Instr} {s u : State} (sending : s.role = .sending) (select : selected .tick s = .ok i)
    (run : exec i s = .next u) : TickRun [i] s u :=
  .cons sending select run (.nil u)

theorem TickRun.append {is js : List Instr} {s u t : State} (h : TickRun is s u) (h' : TickRun js u t) :
    TickRun (is ++ js) s t := by
  induction h with
  | nil s => exact h'
  | cons sending select run _ ih => exact .cons sending select run (ih h')

theorem TickRun.runs {is : List Instr} {s t : State} (h : TickRun is s t) :
    runInputs (List.replicate is.length .tick) s = .next t := by
  induction h with
  | nil s => rfl
  | cons _ select run _ ih =>
    exact (runInputs_cons_next ((stepInput_of_selected select).trans run) _).trans ih

/-- Before its `n`-th operation the run is in `Sending` and its next `TICK` selects that operation. -/
theorem TickRun.selects {is : List Instr} {s t : State} (h : TickRun is s t) (n : Nat) (hn : n < is.length) :
    ∃ u, runInputs (List.replicate n .tick) s = .next u ∧ u.role = .sending ∧
      selected .tick u = .ok is[n] := by
  induction h generalizing n with
  | nil s => cases hn
  | cons sending select run _ ih =>
    cases n with
    | zero => exact ⟨_, rfl, sending, select⟩
    | succ n =>
      obtain ⟨u, hu, hrest⟩ := ih n (Nat.lt_of_succ_lt_succ hn)
      exact ⟨u, (runInputs_cons_next ((stepInput_of_selected select).trans run) _).trans hu, hrest⟩

section Ticks

variable {s : State} (hd : s.initDone = true) (hr : s.role = .sending)
include hd hr

theorem tickRun_txCsAssert (hp : s.txph = .csAssert) :
    TickRun [.txCsAssert] s { s with csOut := true, txph := .data } :=
  .single hr (by rw [selected_tick_sending hr, hp]) (exec_txCsAssert hd hr hp)

theorem tickRun_txData (hp : s.txph = .data) (h : s.txidx < s.txseq.length) :
    TickRun [.txData] s { s with dataOut := s.txseq[s.txidx], txph := .clkHigh } :=
  .single hr (by rw [selected_tick_sending hr, hp]) (exec_txData hd hr hp h)

theorem tickRun_txClkHigh (hp : s.txph = .clkHigh) :
    TickRun [.txClkHigh] s { s with clkOut := true, txph := .clkLow } :=
  .single hr (by rw [selected_tick_sending hr, hp]) (exec_txClkHigh hd hr hp)

theorem tickRun_txClkLow (hp : s.txph = .clkLow) :
    TickRun [.txClkLow] s
      { s with
        clkOut := false
        txidx := s.txidx + 1
        txph := if s.txidx + 1 = s.txseq.length then .csDeassert else .data } :=
  .single hr (by rw [selected_tick_sending hr, hp]) (exec_txClkLow hd hr hp)

theorem tickRun_txCsDeassert (hp : s.txph = .csDeassert) :
    TickRun [.txCsDeassert] s { s with csOut := false, txph := .release } :=
  .single hr (by rw [selected_tick_sending hr, hp]) (exec_txCsDeassert hd hr hp)

theorem tickRun_txRelease (hp : s.txph = .release) :
    ∃ t, TickRun [.txRelease] s t ∧ t.role = .receiving ∧ t.txph = .idle ∧ t.oe = false ∧ t.irqEn = true := by
  obtain ⟨t, ht, hrest⟩ := exec_txRelease_returns hd hr hp
  exact ⟨t, .single hr (by rw [selected_tick_sending hr, hp]) ht, hrest⟩

end Ticks

/-- The framer with `i` bits of its frame out: CS asserted, Clock low after a bit, Data at the last bit driven. -/
def State.atBit (s : State) (i : Nat) : State :=
  { s with
    csOut := true
    clkOut := if i = 0 then s.clkOut else false
    dataOut := (s.txseq.take i).getLast?.getD s.dataOut
    txidx := i
    txph := if i = s.txseq.length then .csDeassert else .data }

theorem State.atBit_txph_of_lt {s : State} {i : Nat} (h : i < s.txseq.length) : (s.atBit i).txph = .data :=
  if_neg h.ne

theorem State.atBit_txph_length (s : State) : (s.atBit s.txseq.length).txph = .csDeassert :=
  if_pos rfl

/-- `TX_CS_ASSERT` leaves the framer at bit 0. -/
theorem State.atBit_zero {s : State} (hi : s.txidx = 0) (hne : s.txseq ≠ []) :
    { s with csOut := true, txph := .data } = s.atBit 0 := by
  have hlen : 0 ≠ s.txseq.length := (List.length_pos_of_ne_nil hne).ne
  simp [State.atBit, hlen, hi]

/-- `TX_DATA`, `TX_CLK_HIGH` and `TX_CLK_LOW` together: the next bit is on Data and counted. -/
theorem State.atBit_succ (s : State) {i : Nat} (h : i < s.txseq.length) :
    { s.atBit i with
      dataOut := s.txseq[i]
      clkOut := false
      txidx := i + 1
      txph := if i + 1 = s.txseq.length then .csDeassert else .data } = s.atBit (i + 1) := by
  have hlast : (s.txseq.take (i + 1)).getLast? = some s.txseq[i] := by simp [List.getLast?_take, h]
  simp [State.atBit, hlast]

/-- The operations of `k` bits (R109). -/
abbrev bitOps (k : Nat) : List Instr := (List.replicate k [.txData, .txClkHigh, .txClkLow]).flatten

section Frame

variable {s : State} (hd : s.initDone = true) (hr : s.role = .sending)
include hd hr

/-- The first tick asserts CS and stands at bit 0. -/
theorem tickRun_atBit_zero (hp : s.txph = .csAssert) (hi : s.txidx = 0) (hne : s.txseq ≠ []) :
    TickRun [.txCsAssert] s (s.atBit 0) :=
  State.atBit_zero hi hne ▸ tickRun_txCsAssert hd hr hp

/-- Three ticks put one bit out. -/
theorem tickRun_atBit_succ {i : Nat} (h : i < s.txseq.length) :
    TickRun [.txData, .txClkHigh, .txClkLow] (s.atBit i) (s.atBit (i + 1)) := by
  rw [← State.atBit_succ s h]
  have hdata := tickRun_txData (s := s.atBit i) hd hr (State.atBit_txph_of_lt h) h
  have hhigh := tickRun_txClkHigh
    (s := { s.atBit i with dataOut := s.txseq[i], txph := .clkHigh }) hd hr rfl
  have hlow := tickRun_txClkLow
    (s := { s.atBit i with dataOut := s.txseq[i], clkOut := true, txph := .clkLow }) hd hr rfl
  exact hdata.append (hhigh.append hlow)

/-- `3 k` ticks put the first `k` bits out. -/
theorem tickRun_atBit {k : Nat} (hk : k ≤ s.txseq.length) : TickRun (bitOps k) (s.atBit 0) (s.atBit k) := by
  induction k with
  | zero => exact .nil _
  | succ k ih =>
    rw [bitOps, List.replicate_succ', List.flatten_concat]
    exact (ih (by omega)).append (tickRun_atBit_succ hd hr hk)

/-- After the last bit two ticks deassert CS and release the bus. -/
theorem tickRun_release :
    ∃ t, TickRun [.txCsDeassert, .txRelease] (s.atBit s.txseq.length) t ∧
      t.role = .receiving ∧ t.txph = .idle ∧ t.oe = false ∧ t.irqEn = true := by
  have hcs := tickRun_txCsDeassert (s := s.atBit s.txseq.length) hd hr (State.atBit_txph_length s)
  obtain ⟨t, hrel, hrest⟩ :=
    tickRun_txRelease (s := { s.atBit s.txseq.length with csOut := false, txph := .release }) hd hr rfl
  exact ⟨t, hcs.append hrel, hrest⟩

/-- The ticks of a whole frame, from `ACQUIRE` to `TX_RELEASE` (R109). -/
theorem tickRun_frame (hp : s.txph = .csAssert) (hi : s.txidx = 0) (hne : s.txseq ≠ []) :
    ∃ t, TickRun (frameOps s.txseq.length) s t ∧
      t.role = .receiving ∧ t.txph = .idle ∧ t.oe = false ∧ t.irqEn = true := by
  obtain ⟨t, hrun, hrest⟩ := tickRun_release hd hr
  exact ⟨t, ((tickRun_atBit_zero hd hr hp hi hne).append (tickRun_atBit hd hr le_rfl)).append hrun, hrest⟩

end Frame

theorem length_frameOps (m : Nat) : (frameOps m).length = 3 * m + 3 := by
  simp [frameOps, mul_comm]

/-- Settles O18: masked handlers leave a step of another agent its level, request or result port; the ticks are the
run of the frame's operations. -/
theorem frameRunsToCompletion : Obligations.FrameRunsToCompletion := by
  refine ⟨fun s e t hinv hd hr htick ht => ?_, fun s L hd hr hp hi hlen => ?_⟩
  · obtain ⟨hirq, -, -⟩ := (hinv.spec hd).roleAgrees
    have hm : s.irqEn = false := by simpa [hr] using hirq
    cases e with
    | tick => exact absurd rfl htick
    | hostInit c k d =>
      rw [stepInput_hostInit_initialised hd] at ht
      cases ht
    | pin l v =>
      rw [stepInput_pin_masked hd hm l v] at ht
      cases ht
      simp
    | hostSend p =>
      rcases stepInput_hostSend_next ht with ⟨-, rfl⟩ | ⟨hlong, rfl⟩
      · simp
      · rw [maxPayload] at hlong
        simp [hlong]
    | call w =>
      obtain ⟨r, rfl⟩ := stepInput_call ht
      simp
  · have hne : s.txseq ≠ [] := List.ne_nil_of_length_pos (by omega)
    have hcount : (frameOps s.txseq.length).length = 3 * (16 + 8 * L) + 3 := by rw [length_frameOps, hlen]
    obtain ⟨t, hrun, hrest⟩ := tickRun_frame hd hr hp hi hne
    exact ⟨hcount, hrun.selects, t, hcount ▸ hrun.runs, hrest⟩

end Sys2Proof.Machine
end

section
/-! PROOFS. The dispatch on a frame handed over, one rule for each arm, and what it leaves to the levels (R132). -/

namespace Sys2Proof.Machine

theorem sentinelFrame_eq : sentinelFrame = frameBits sentinel := by decide

theorem ne_nil_of_frameDecode_ok {b : BitSeq} {m : Message} (h : frameDecode b = .ok m) : b ≠ [] := by
  rintro rfl
  cases h

theorem frameDone_nil (s : State) : frameDone [] s = .next s := rfl

theorem frameDone_error {b : BitSeq} {e : DecodeError} (hb : b ≠ []) (h : frameDecode b = .error e) (s : State) :
    frameDone b s = .next (s.acquire sentinelFrame .internal) := by
  rw [sentinelFrame_eq, ← sendFrame_sentinel]
  simp [frameDone, hb, h, fdErrorReply]

section Decoded

variable {b : BitSeq} {m : Message} (h : frameDecode b = .ok m)
include h

theorem frameDone_invalid (hv : m.valid = false) (s : State) :
    frameDone b s = .next (s.acquire sentinelFrame .internal) := by
  rw [sentinelFrame_eq, ← sendFrame_sentinel]
  simp [frameDone, ne_nil_of_frameDecode_ok h, h, hv, fdErrorReply]

theorem frameDone_resend (hv : m.valid = true) (hp : m.payload = sentinel) {s : State} (hl : s.lastValid = true)
    (hf : s.last.length ≤ maxPayload) : frameDone b s = .next (s.acquire (frameBits s.last) .internal) := by
  rw [← sendFrame_of hf]
  simp [frameDone, ne_nil_of_frameDecode_ok h, h, hv, hp, hl, fdResend]

theorem frameDone_unanswered (hv : m.valid = true) (hp : m.payload = sentinel) {s : State}
    (hl : s.lastValid = false) : frameDone b s = .next s := by
  simp [frameDone, ne_nil_of_frameDecode_ok h, h, hv, hp, hl, fdResendNone]

theorem frameDone_deliver (hv : m.valid = true) (hp : m.payload ≠ sentinel) (s : State) :
    frameDone b s = .next ((s.retain m.payload).emit (.onMessage m.payload)) := by
  simp [frameDone, ne_nil_of_frameDecode_ok h, h, hv, hp, fdDeliver]

end Decoded

@[simp] theorem State.acquire_level (s : State) (q : BitSeq) (c : Source) (l : Line) :
    (s.acquire q c).level l = s.level l := rfl

@[simp] theorem State.retain_level (s : State) (p : Payload) (l : Line) : (s.retain p).level l = s.level l := rfl

@[simp] theorem State.emit_level (s : State) (e : Event) (l : Line) : (s.emit e).level l = s.level l := rfl

@[simp] theorem State.clearBuffer_level (s : State) (l : Line) : s.clearBuffer.level l = s.level l := rfl

@[simp] theorem State.capture_level (s : State) (b : Bit) (l : Line) : (s.capture b).level l = s.level l := by
  rcases capture_cases s b with ⟨-, h⟩ | ⟨-, h⟩
  · rw [h]; rfl
  · rw [h]

/-- While what is retained fits a frame, the dispatch completes, and no arm of it writes a tracked level. -/
theorem frameDone_completes {s : State} (hf : s.last.length ≤ maxPayload) (b : BitSeq) :
    ∃ t, frameDone b s = .next t ∧ ∀ l, t.level l = s.level l := by
  rcases frameDone_cases b s with ⟨-, h⟩ | ⟨-, -, h⟩ | ⟨m, -, -, -, -, h⟩ | ⟨m, -, -, -, -, h⟩ | ⟨m, -, -, -, h⟩
  case inr.inr.inl => exact ⟨_, h.trans (sendFrame_of hf _ s), by simp⟩
  all_goals exact ⟨_, h, by simp⟩

end Sys2Proof.Machine
end

section
/-! PROOFS. The pin steps of the Bit Sampler, one rule for each handler (R120 to R125). -/

namespace Sys2Proof.Machine

theorem State.capture_of_room {s : State} (h : s.rxcnt < s.cfg.maxBufferBits) (b : Bit) :
    s.capture b = { s with rxbuf := s.rxbuf ++ [b] } :=
  if_pos h

theorem State.capture_of_full {s : State} (h : s.cfg.maxBufferBits ≤ s.rxcnt) (b : Bit) : s.capture b = s :=
  if_neg (Nat.not_lt.mpr h)

section Initialised

variable {s : State} (hd : s.initDone = true)
include hd

theorem exec_evData (v : Bit) : exec (.evData v) s = .next (s.setLevel .data v) :=
  whenEnabled_of hd rfl

theorem exec_evMasked (hm : s.irqEn = false) {l : Line} (hl : l.hasHandler = true) (v : Bit) :
    exec (.evMasked l v) s = .next (s.setLevel l v) :=
  whenEnabled_of hd (by simp [hm, hl])

section Handled

variable (hq : s.irqEn = true)
include hq

theorem exec_evCsRise (hc : s.csIn = false) : exec .evCsRise s = .next (s.setLevel .cs true).clearBuffer :=
  whenEnabled_of hd (by simp [hq, hc])

theorem exec_evCsFall (hc : s.csIn = true) :
    exec .evCsFall s = frameDone s.rxbuf (s.setLevel .cs false).clearBuffer :=
  whenEnabled_of hd (by simp [hq, hc])

theorem exec_evClkRise (hk : s.clkIn = false) (hc : s.csIn = true) :
    exec .evClkRise s = .next ((s.setLevel .clk true).capture s.dataIn) :=
  whenEnabled_of hd (by simp [hq, hk, hc])

theorem exec_evClkRiseIdle (hk : s.clkIn = false) (hc : s.csIn = false) :
    exec .evClkRiseIdle s = .next (s.setLevel .clk true) :=
  whenEnabled_of hd (by simp [hq, hk, hc])

theorem exec_evClkFall (hk : s.clkIn = true) : exec .evClkFall s = .next (s.setLevel .clk false) :=
  whenEnabled_of hd (by simp [hq, hk])

/-- A steady low line has its level written again, which changes nothing. -/
theorem exec_evSteadyLow {l : Line} (hl : l.hasHandler = true) (hv : s.level l = false) :
    exec (.evSteadyLow l) s = .next s := by
  refine (whenEnabled_of hd (by simp [hq, hl, hv])).trans ?_
  rw [← hv, State.setLevel_level]

/-- A steady high line has its level written again, which changes nothing. -/
theorem exec_evSteadyHigh {l : Line} (hl : l.hasHandler = true) (hv : s.level l = true) :
    exec (.evSteadyHigh l) s = .next s := by
  refine (whenEnabled_of hd (by simp [hq, hl, hv])).trans ?_
  conv_rhs => rw [← State.setLevel_level s l, hv]

end Handled

end Initialised

/-! The same handlers reached by the pin step that selects them (R77). -/

theorem hasHandler_iff {l : Line} : l.hasHandler = true ↔ l ≠ .data := by
  cases l <;> decide

section Steps

variable {s : State} (hd : s.initDone = true)
include hd

theorem stepInput_pin_data (v : Bit) : stepInput (.pin .data v) s = .next (s.setLevel .data v) :=
  (stepInput_of_selected (selected_data v s)).trans (exec_evData hd v)

variable (hq : s.irqEn = true) {l : Line} (hl : l ≠ .data)
include hq hl

/-- A handled pin step without a transition changes nothing (R120). -/
theorem stepInput_pin_steady : stepInput (.pin l (s.level l)) s = .next s := by
  obtain ⟨-, hsel⟩ := pinStepSelectsOneOperation l (s.level l) s
  rw [stepInput_of_selected hsel, if_neg hl, if_neg (by simp [hq]), if_pos rfl]
  cases hv : s.level l with
  | false => exact exec_evSteadyLow hd hq (hasHandler_iff.mpr hl) hv
  | true => exact exec_evSteadyHigh hd hq (hasHandler_iff.mpr hl) hv

/-- A handled transition completes, and its handler writes no level but the line's own (R121 to R124). -/
theorem stepInput_pin_transition (hf : s.last.length ≤ maxPayload) {v : Bit} (hv : s.level l = !v) :
    ∃ t, stepInput (.pin l v) s = .next t ∧ ∀ m, t.level m = (s.setLevel l v).level m := by
  obtain ⟨-, hsel⟩ := pinStepSelectsOneOperation l v s
  rw [stepInput_of_selected hsel, if_neg hl, if_neg (by simp [hq]), if_neg (by simp [hv])]
  cases l with
  | data => exact absurd rfl hl
  | cs =>
    cases v with
    | true => exact ⟨_, exec_evCsRise hd hq hv, State.clearBuffer_level _⟩
    | false =>
      obtain ⟨t, ht, hlev⟩ := frameDone_completes (s := (s.setLevel .cs false).clearBuffer) hf s.rxbuf
      exact ⟨t, (exec_evCsFall hd hq hv).trans ht, hlev⟩
  | clk =>
    cases v with
    | false => exact ⟨_, exec_evClkFall hd hq hv, fun _ => rfl⟩
    | true =>
      cases hc : s.csIn with
      | true => exact ⟨_, exec_evClkRise hd hq hv hc, State.capture_level _ _⟩
      | false => exact ⟨_, exec_evClkRiseIdle hd hq hv hc, fun _ => rfl⟩

end Steps

/-- A pin step that is masked, brings no transition or is on Data only tracks its level (R120, R125). -/
theorem stepInput_pin_quiet {s : State} (hd : s.initDone = true) {l : Line} {v : Bit}
    (h : s.irqEn = false ∨ s.level l = v ∨ l = .data) : stepInput (.pin l v) s = .next (s.setLevel l v) := by
  cases hq : s.irqEn with
  | false => exact stepInput_pin_masked hd hq l v
  | true =>
    by_cases hl : l = .data
    · subst hl
      exact stepInput_pin_data hd v
    · obtain rfl : s.level l = v := by simpa [hq, hl] using h
      rw [State.setLevel_level]
      exact stepInput_pin_steady hd hq hl

/-- Every pin step completes, its line then has the new level and the others theirs (R120). -/
theorem stepInput_pin_tracks {s : State} (hd : s.initDone = true) (hf : s.last.length ≤ maxPayload) (l : Line)
    (v : Bit) : ∃ t, stepInput (.pin l v) s = .next t ∧ ∀ m, t.level m = (s.setLevel l v).level m := by
  by_cases h : s.irqEn = false ∨ s.level l = v ∨ l = .data
  · exact ⟨_, stepInput_pin_quiet hd h, fun _ => rfl⟩
  · push Not at h
    obtain ⟨hq, hv, hl⟩ := h
    exact stepInput_pin_transition hd (Bool.eq_true_of_not_eq_false hq) hl hf (Bool.eq_not.mpr hv)

/-- Settles O25, by the levels after any pin step and, where no handler runs, the whole state after it. -/
theorem pinStepsTrackLevels : Obligations.PinStepsTrackLevels := by
  refine ⟨fun s l v hd hf => ?_, fun s l v hd hl => ?_⟩
  · obtain ⟨t, ht, hlev⟩ := stepInput_pin_tracks hd hf l v
    refine ⟨t, ht, ?_, fun m hm => ?_, fun hquiet => ?_⟩
    · rw [hlev, State.level_setLevel_self]
    · rw [hlev, State.level_setLevel_ne s hm]
    · rw [stepInput_pin_quiet hd hquiet] at ht
      cases ht
      rfl
  · have hh : l.hasHandler = true := hasHandler_iff.mpr hl
    exact ⟨fun hm => exec_evMasked hd hm hh v, fun hq hv => exec_evSteadyLow hd hq hh hv,
      fun hq hv => exec_evSteadyHigh hd hq hh hv⟩

/-- Settles O26: the handler hands the buffer over to the dispatch, whose arm the buffer decides. -/
theorem csFallDispatchesTheFrame : Obligations.CsFallDispatchesTheFrame := by
  intro s hd hq hc hf t
  have hfall : exec .evCsFall s = frameDone s.rxbuf t := exec_evCsFall hd hq hc
  rw [hfall]
  refine ⟨fun hb => ?_, fun hb hbad => ?_, fun m hm hv hp => ⟨fun hl => ?_, fun hl => ?_⟩, fun m hm hv hp => ?_⟩
  · rw [hb, frameDone_nil]
  · rcases hbad with he | ⟨m, hm, hv⟩
    · exact frameDone_error hb he t
    · exact frameDone_invalid hm hv t
  · exact frameDone_resend hm hv hp hl hf
  · exact frameDone_unanswered hm hv hp hl
  · exact frameDone_deliver hm hv hp t

/-- Settles O22, by the rule of the handler. -/
theorem csRiseClearsTheBuffer : Obligations.CsRiseClearsTheBuffer :=
  fun _ hd hq hc => exec_evCsRise hd hq hc

/-- Settles O23: with CS active the handler captures the bit, which the capacity appends or drops. -/
theorem clockRiseSamplesData : Obligations.ClockRiseSamplesData := by
  intro s hd hq hk
  refine ⟨fun hc hroom => ?_, fun hc hfull => ?_, exec_evClkRiseIdle hd hq hk⟩
  · refine (exec_evClkRise hd hq hk hc).trans (congrArg _ ?_)
    exact State.capture_of_room (s := s.setLevel .clk true) hroom s.dataIn
  · refine (exec_evClkRise hd hq hk hc).trans (congrArg _ ?_)
    exact State.capture_of_full (s := s.setLevel .clk true) hfull s.dataIn

/-- Settles O24, by the rules of the two steps. -/
theorem clockFallAndDataOnlyTrack : Obligations.ClockFallAndDataOnlyTrack :=
  fun _ hd => ⟨exec_evClkFall hd, exec_evData hd⟩

end Sys2Proof.Machine
end

section
/-! PROOFS. The arms of the frame-done dispatch under their rows' precondition (R133 to R137), and the frame of an
internal send, which ends without an event (R134). -/

namespace Sys2Proof.Machine

theorem fdErrorReply_eq (s : State) : fdErrorReply s = .next (s.acquire sentinelFrame .internal) := by
  rw [sentinelFrame_eq]
  exact sendFrame_sentinel .internal s

section Arms

variable {s : State} (hd : s.initDone = true) (ha : s.atFrameEnd = true)
include hd ha

theorem exec_fdEmpty : exec .fdEmpty s = .next s :=
  whenEnabled_of hd ha

theorem exec_fdErrorReplyIncomplete :
    exec .fdErrorReplyIncomplete s = .next (s.acquire sentinelFrame .internal) :=
  (whenEnabled_of hd ha).trans (fdErrorReply_eq s)

theorem exec_fdErrorReplyMismatch :
    exec .fdErrorReplyMismatch s = .next (s.acquire sentinelFrame .internal) :=
  (whenEnabled_of hd ha).trans (fdErrorReply_eq s)

theorem exec_fdDeliver {p : Payload} (hf : p.length ≤ maxPayload) (hp : p ≠ sentinel) :
    exec (.fdDeliver p) s = .next ((s.retain p).emit (.onMessage p)) :=
  whenEnabled_of hd (by simp [ha, fitsFrame, hf, hp])

theorem exec_fdResend (hl : s.lastValid = true) (hf : s.last.length ≤ maxPayload) :
    exec .fdResend s = .next (s.acquire (frameBits s.last) .internal) :=
  (whenEnabled_of hd (by simp [ha, hl])).trans (sendFrame_of hf .internal s)

theorem exec_fdResendNone (hl : s.lastValid = false) : exec .fdResendNone s = .next s :=
  whenEnabled_of hd (by simp [ha, hl])

end Arms

/-- Settles O30, by the rules of the two arms. -/
theorem emptyAndUnansweredArmsDoNothing : Obligations.EmptyAndUnansweredArmsDoNothing :=
  fun _ hd ha => ⟨exec_fdEmpty hd ha, exec_fdResendNone hd ha⟩

/-- Settles O32, by the rule of the arm. -/
theorem deliverRetainsAndNotifies : Obligations.DeliverRetainsAndNotifies :=
  fun _ _ hd ha hf hp => exec_fdDeliver hd ha hf hp

/-- Settles O33, by the rule of the arm. -/
theorem resendSendsTheRetainedPayload : Obligations.ResendSendsTheRetainedPayload :=
  fun _ hd ha hl hf => exec_fdResend hd ha hl hf

/-- The framer with its whole frame out and CS deasserted, one tick before it releases the bus. -/
def State.atRelease (s : State) : State := { s.atBit s.txseq.length with csOut := false, txph := .release }

section Frame

variable {s : State} (hd : s.initDone = true) (hr : s.role = .sending)
include hd hr

theorem tickRun_atRelease (hp : s.txph = .csAssert) (hi : s.txidx = 0) (hne : s.txseq ≠ []) :
    TickRun ([.txCsAssert] ++ bitOps s.txseq.length ++ [.txCsDeassert]) s s.atRelease :=
  ((tickRun_atBit_zero hd hr hp hi hne).append (tickRun_atBit hd hr le_rfl)).append
    (tickRun_txCsDeassert (s := s.atBit s.txseq.length) hd hr (State.atBit_txph_length s))

/-- The ticks of a whole frame of an internal send, with the state they end in. -/
theorem tickRun_frame_internal (hp : s.txph = .csAssert) (hi : s.txidx = 0) (hne : s.txseq ≠ [])
    (hs : s.txsrc = .internal) : TickRun (frameOps s.txseq.length) s s.atRelease.releaseBus := by
  have hrel : TickRun [.txRelease] s.atRelease s.atRelease.releaseBus :=
    .single hr (selected_tick_sending hr) (exec_txRelease_internal (s := s.atRelease) hd hr rfl hs)
  simpa [frameOps] using (tickRun_atRelease hd hr hp hi hne).append hrel

end Frame

/-- The ticks after an internal send took the bus put its frame out and release the bus. -/
theorem runInputs_acquire_internal {s : State} (hd : s.initDone = true) {q : BitSeq} (hq : q ≠ []) :
    runInputs (List.replicate (3 * q.length + 3) .tick) (s.acquire q .internal) =
      .next (s.acquire q .internal).atRelease.releaseBus :=
  length_frameOps q.length ▸ (tickRun_frame_internal (s := s.acquire q .internal) hd rfl rfl rfl hq rfl).runs

/-- Settles O31: both rows acquire the bus, and the ticks of the frame write none of what the host sees. -/
theorem errorReplySendsOneSentinelFrame : Obligations.ErrorReplySendsOneSentinelFrame := by
  intro s hd ha t
  refine ⟨exec_fdErrorReplyIncomplete hd ha, exec_fdErrorReplyMismatch hd ha, ?_⟩
  have hrun := runInputs_acquire_internal (s := s) hd (q := sentinelFrame) (by decide)
  exact ⟨_, hrun, rfl, rfl, rfl, rfl, rfl, rfl, rfl⟩

end Sys2Proof.Machine
end

section
/-! PROOFS. The role after a step, for each kind of input (R131). -/

namespace Sys2Proof.Machine

/-- A dispatch takes the bus exactly for an error reply and for a resend. -/
theorem frameDone_role {b : BitSeq} {s t : State} (hr : s.role = .receiving) (h : frameDone b s = .next t) :
    t.role = .sending ↔
      isMalformed b = true ∨ (isValid b = true ∧ isSentinel b = true ∧ s.lastValid = true) := by
  rcases frameDone_cases b s with ⟨rfl, hb⟩ | ⟨-, hbad, hb⟩ | ⟨m, hm, hv, hp, hl, hb⟩ | ⟨m, hm, hv, hp, hl, hb⟩ |
    ⟨m, hm, hv, hp, hb⟩ <;> rw [hb] at h
  · cases h
    simp [hr, isMalformed, isValid, frameDecode]
  · cases h
    simp [hbad]
  · rcases sendFrame_cases s.last .internal s with ⟨-, hs⟩ | ⟨-, hs⟩ <;> rw [hs] at h <;> cases h
    simp [isValid_of_ok hm, isSentinel_of_ok hm, hv, hp, hl]
  · cases h
    simp [hr, isMalformed, isValid_of_ok hm, hv, hl]
  · cases h
    simp [hr, isMalformed, isValid_of_ok hm, isSentinel_of_ok hm, hv, hp]

/-- A handled CS falling edge is the dispatch on the buffer (R123). -/
theorem stepInput_csFall {s : State} (hd : s.initDone = true) (hq : s.irqEn = true) (hc : s.csIn = true) :
    stepInput (.pin .cs false) s = frameDone s.rxbuf (s.setLevel .cs false).clearBuffer := by
  rw [stepInput_of_selected (selected_cs false s), hq, hc]
  exact exec_evCsFall hd hq hc

/-- What a pin step that is no handled CS falling edge did: it tracked its level, and a CS rising edge cleared the
buffer (R121), a Clock rising edge with CS active captured a bit (R122). -/
theorem stepInput_pin_next {l : Line} {v : Bit} {s t : State} (hd : s.initDone = true)
    (hfall : ¬(l = .cs ∧ v = false ∧ s.csIn = true ∧ s.irqEn = true)) (h : stepInput (.pin l v) s = .next t) :
    t = s.setLevel l v ∨
      (l = .cs ∧ v = true ∧ s.irqEn = true ∧ s.csIn = false ∧ t = (s.setLevel .cs true).clearBuffer) ∨
      (l = .clk ∧ v = true ∧ s.irqEn = true ∧ s.clkIn = false ∧ s.csIn = true ∧
        t = (s.setLevel .clk true).capture s.dataIn) := by
  by_cases hquiet : s.irqEn = false ∨ s.level l = v ∨ l = .data
  · rw [stepInput_pin_quiet hd hquiet] at h
    cases h
    exact .inl rfl
  push Not at hquiet
  obtain ⟨hirq, hne, hl⟩ := hquiet
  have hq : s.irqEn = true := Bool.eq_true_of_not_eq_false hirq
  have hv : s.level l = !v := Bool.eq_not.mpr hne
  obtain ⟨-, hsel⟩ := pinStepSelectsOneOperation l v s
  rw [stepInput_of_selected hsel, if_neg hl, if_neg hirq, if_neg hne] at h
  cases l with
  | data => exact absurd rfl hl
  | cs =>
    cases v with
    | false => exact absurd ⟨rfl, rfl, hv, hq⟩ hfall
    | true =>
      cases h.symm.trans (exec_evCsRise hd hq hv)
      exact .inr (.inl ⟨rfl, rfl, hq, hv, rfl⟩)
  | clk =>
    cases v with
    | false =>
      cases h.symm.trans (exec_evClkFall hd hq hv)
      exact .inl rfl
    | true =>
      cases hc : s.csIn with
      | true =>
        rw [hc] at h
        cases h.symm.trans (exec_evClkRise hd hq hv hc)
        exact .inr (.inr ⟨rfl, rfl, hq, hv, rfl, rfl⟩)
      | false =>
        rw [hc] at h
        cases h.symm.trans (exec_evClkRiseIdle hd hq hv hc)
        exact .inl rfl

/-- No pin step but a handled CS falling edge moves the role. -/
theorem stepInput_pin_role {l : Line} {v : Bit} {s t : State} (hd : s.initDone = true)
    (hfall : ¬(l = .cs ∧ v = false ∧ s.csIn = true ∧ s.irqEn = true)) (h : stepInput (.pin l v) s = .next t) :
    t.role = s.role := by
  rcases stepInput_pin_next hd hfall h with rfl | ⟨-, -, -, -, rfl⟩ | ⟨-, -, -, -, -, rfl⟩ <;> simp

/-- No host command and no call moves the role of an initialised framer. -/
theorem stepInput_role_of_command {e : Input} {s t : State} (hd : s.initDone = true) (htick : e ≠ .tick)
    (hpin : ∀ l v, e ≠ .pin l v) (h : stepInput e s = .next t) : t.role = s.role := by
  cases e with
  | tick => exact absurd rfl htick
  | pin l v => exact absurd rfl (hpin l v)
  | hostInit c k d =>
    rw [stepInput_hostInit_initialised hd] at h
    cases h
  | hostSend p => rcases stepInput_hostSend_next h with ⟨-, rfl⟩ | ⟨-, rfl⟩ <;> rfl
  | call w =>
    obtain ⟨r, rfl⟩ := stepInput_call h
    rfl

/-- From `Receiving` a `TICK` moves the role exactly where it polls a free bus (R101). -/
theorem stepInput_tick_role_receiving {s t : State} (hinv : s.Inv) (hd : s.initDone = true)
    (hr : s.role = .receiving) (h : stepInput .tick s = .next t) :
    t.role = .sending ↔ s.hostReq.valid = true ∧ s.csIn = false := by
  cases hv : s.hostReq.valid with
  | false => exact absurd h (stepInput_tick_disabled (tickEnabled_eq_false hr hv) t)
  | true =>
    obtain ⟨-, -, hidle⟩ := (hinv.spec hd).roleAgrees
    have hp : s.txph = .idle := hidle.mp hr
    have hpoll : s.polling = true := polling_iff.mpr ⟨hr, hv, hp⟩
    rw [stepInput_of_selected (selected_tick_receiving hr hp), if_pos hv] at h
    cases hc : s.csIn with
    | false =>
      rw [exec_txPoll_free hd hpoll hc hinv.requestFits] at h
      cases h
      simp
    | true =>
      rcases Nat.lt_or_ge (s.hostPolls + 1) s.cfg.busFreeTimeoutPolls with hn | hn
      · rw [exec_txPoll_busy hd hpoll hc hn] at h
        cases h
        simp [hr]
      · rw [exec_txPoll_exhausted hd hpoll hc hn] at h
        cases h
        simp [hr]

/-- From `Sending` a `TICK` moves the role exactly in phase `Release` (R108). -/
theorem stepInput_tick_role_sending {s t : State} (hinv : s.Inv) (hd : s.initDone = true)
    (hr : s.role = .sending) (h : stepInput .tick s = .next t) : t.role = .receiving ↔ s.txph = .release := by
  suffices ∃ u, stepInput .tick s = .next u ∧ (u.role = .receiving ↔ s.txph = .release) by
    obtain ⟨u, hu, hrole⟩ := this
    cases h.symm.trans hu
    exact hrole
  have hphase := hinv.phase hd
  obtain ⟨-, -, hidle⟩ := (hinv.spec hd).roleAgrees
  have hsel := selected_tick_sending hr
  unfold State.phaseAgrees at hphase
  cases hp : s.txph <;> rw [hp] at hsel hphase
  case idle => simp [hr, hp] at hidle
  case csAssert => exact ⟨_, (stepInput_of_selected hsel).trans (exec_txCsAssert hd hr hp), by simp [hr]⟩
  case data =>
    obtain ⟨hlt, -, -⟩ := hphase
    exact ⟨_, (stepInput_of_selected hsel).trans (exec_txData hd hr hp hlt), by simp [hr]⟩
  case clkHigh => exact ⟨_, (stepInput_of_selected hsel).trans (exec_txClkHigh hd hr hp), by simp [hr]⟩
  case clkLow => exact ⟨_, (stepInput_of_selected hsel).trans (exec_txClkLow hd hr hp), by simp [hr]⟩
  case csDeassert => exact ⟨_, (stepInput_of_selected hsel).trans (exec_txCsDeassert hd hr hp), by simp [hr]⟩
  case release =>
    obtain ⟨u, hu, hrole, -⟩ := exec_txRelease_returns hd hr hp
    exact ⟨u, (stepInput_of_selected hsel).trans hu, by simp [hrole]⟩

/-- Settles O36, by the role after each kind of input; while `Sending` only a `TICK` moves it (R109). -/
theorem roleTransitionsAreExactlyThese : Obligations.RoleTransitionsAreExactlyThese := by
  intro s e t hinv hd h
  refine ⟨fun hr => ?_, fun hr => ?_⟩
  · obtain ⟨hirq, -, -⟩ := (hinv.spec hd).roleAgrees
    have hq : s.irqEn = true := hirq.mp hr
    cases e with
    | tick => simpa using stepInput_tick_role_receiving hinv hd hr h
    | pin l v =>
      by_cases hfall : l = .cs ∧ v = false ∧ s.csIn = true
      · obtain ⟨rfl, rfl, hc⟩ := hfall
        rw [stepInput_csFall hd hq hc] at h
        simpa [hc] using frameDone_role (s := (s.setLevel .cs false).clearBuffer) (by simp [hr]) h
      · have hrole : t.role = s.role := stepInput_pin_role hd (fun ⟨hl, hv, hc, _⟩ => hfall ⟨hl, hv, hc⟩) h
        constructor
        · intro hs
          simp [hrole, hr] at hs
        · rintro (⟨he, -⟩ | ⟨he, hc, -⟩)
          · cases he
          · cases he
            exact absurd ⟨rfl, rfl, hc⟩ hfall
    | hostInit | hostSend | call => simp [stepInput_role_of_command hd (by simp) (by simp) h, hr]
  · by_cases htick : e = .tick
    · subst htick
      simpa using stepInput_tick_role_sending hinv hd hr h
    · obtain ⟨hframe, -⟩ := frameRunsToCompletion
      obtain ⟨hrole, -⟩ := hframe s e t hinv hd hr htick h
      simp [hrole, hr, htick]

end Sys2Proof.Machine
end

section
/-! PROOFS. The events a step emits (R35, R151, R152): for each kind of input, whether it emits a `SEND_RESULT`, and
from where. -/

namespace Sys2Proof.Machine

/-- Before `HOST_INIT` a pin step, a `HOST_SEND` and a `TICK` are not enabled (R181). -/
theorem initDone_of_stepInput_next {e : Input} {s t : State} (hinit : ∀ c k d, e ≠ .hostInit c k d)
    (hcall : ∀ w, e ≠ .call w) (h : stepInput e s = .next t) : s.initDone = true := by
  by_contra hd
  obtain ⟨c, k, d, he⟩ := stepInput_next_uninit (Bool.eq_false_of_not_eq_true hd) hcall h
  exact hinit c k d he

/-- What a `HOST_INIT` that completes did (R130). -/
theorem stepInput_hostInit_next {c k d : Bit} {s t : State} (h : stepInput (.hostInit c k d) s = .next t) :
    s.initDone = false ∧ t = s.initialise c k d := by
  rw [stepInput_of_selected (selected_hostInit c k d s)] at h
  simp only [exec, execHostInit] at h
  split at h <;> cases h
  next hd => exact ⟨Bool.eq_false_of_not_eq_true hd, rfl⟩

/-- A dispatch emits nothing but the delivery of a message (R132, R135). -/
theorem frameDone_events {b : BitSeq} {s t : State} (h : frameDone b s = .next t) :
    t.events = s.events ∨ ∃ p, t.events = s.events ++ [.onMessage p] := by
  rcases frameDone_cases b s with ⟨-, hb⟩ | ⟨-, -, hb⟩ | ⟨m, -, -, -, -, hb⟩ | ⟨m, -, -, -, -, hb⟩ | ⟨m, -, -, -, hb⟩
    <;> rw [hb] at h
  · cases h
    exact .inl rfl
  · cases h
    exact .inl rfl
  · rcases sendFrame_cases s.last .internal s with ⟨-, hs⟩ | ⟨-, hs⟩ <;> cases h.symm.trans hs
    exact .inl rfl
  · cases h
    exact .inl rfl
  · cases h
    exact .inr ⟨m.payload, rfl⟩

/-- A pin step emits nothing but the delivery of a message. -/
theorem stepInput_pin_events {l : Line} {v : Bit} {s t : State} (h : stepInput (.pin l v) s = .next t) :
    t.events = s.events ∨ ∃ p, t.events = s.events ++ [.onMessage p] := by
  have hd : s.initDone = true := initDone_of_stepInput_next (by simp) (by simp) h
  by_cases hfall : l = .cs ∧ v = false ∧ s.csIn = true ∧ s.irqEn = true
  · obtain ⟨rfl, rfl, hc, hq⟩ := hfall
    rw [stepInput_csFall hd hq hc] at h
    simpa using frameDone_events h
  · rcases stepInput_pin_next hd hfall h with rfl | ⟨-, -, -, -, rfl⟩ | ⟨-, -, -, -, -, rfl⟩ <;> simp

/-- A `TICK` while a request waits for the bus is a poll (R101). -/
theorem stepInput_tick_polling {s : State} (hp : s.polling = true) : stepInput .tick s = exec .txPoll s := by
  obtain ⟨hr, hv, hidle⟩ := polling_iff.mp hp
  rw [stepInput_of_selected (selected_tick_receiving hr hidle), if_pos hv]

/-- A `TICK` that completes in `Receiving` polled for a waiting request (R101, R110). -/
theorem polling_of_stepInput_tick {s t : State} (hr : s.role = .receiving) (h : stepInput .tick s = .next t) :
    s.polling = true := by
  refine polling_iff.mpr ⟨hr, ?_, ?_⟩
  · by_contra hv
    exact stepInput_tick_disabled (tickEnabled_eq_false hr (Bool.eq_false_of_not_eq_true hv)) t h
  · by_contra hp
    obtain ⟨i, hi, -⟩ := stepInput_next h
    cases (selected_tick_unreachable hr hp).symm.trans hi

/-- What a poll that completes did (R101): it acquired the bus, gave up at the bound or counted. -/
theorem exec_txPoll_next {s t : State} (h : exec .txPoll s = .next t) :
    (s.csIn = false ∧ t = s.acquire (frameBits s.hostReq.p) .host) ∨
      (s.csIn = true ∧ s.cfg.busFreeTimeoutPolls ≤ s.hostPolls + 1 ∧
        t = (s.raise .busBusyTimeout).clearRequest) ∨
      (s.csIn = true ∧ s.hostPolls + 1 < s.cfg.busFreeTimeoutPolls ∧
        t = { s with hostPolls := s.hostPolls + 1 }) := by
  obtain ⟨hd, hp, hk⟩ := whenEnabled_next.mp h
  rcases Bool.eq_false_or_eq_true s.csIn with hc | hc
  · rcases Nat.lt_or_ge (s.hostPolls + 1) s.cfg.busFreeTimeoutPolls with hn | hn
    · cases h.symm.trans (exec_txPoll_busy hd hp hc hn)
      exact .inr (.inr ⟨hc, hn, rfl⟩)
    · cases h.symm.trans (exec_txPoll_exhausted hd hp hc hn)
      exact .inr (.inl ⟨hc, hn, rfl⟩)
  · rw [hc] at hk
    rcases sendFrame_cases s.hostReq.p .host s with ⟨-, hs⟩ | ⟨-, hs⟩ <;> cases hk.symm.trans hs
    exact .inl ⟨hc, rfl⟩

/-- In `Sending` a `TICK` emits nothing, but for the `TX_RELEASE` of a host send, which answers `Ok` (R108). -/
theorem stepInput_tick_sending_events {s t : State} (hr : s.role = .sending) (h : stepInput .tick s = .next t) :
    t.events = s.events ∨ (s.txph = .release ∧ s.txsrc = .host ∧ t = s.releaseBus.finishHostSend) := by
  have hd : s.initDone = true := initDone_of_stepInput_next (by simp) (by simp) h
  obtain ⟨i, hi, hx⟩ := stepInput_next h
  rw [selected_tick_sending hr] at hi
  cases hp : s.txph <;> rw [hp] at hi <;> cases hi
  case csAssert =>
    cases hx.symm.trans (exec_txCsAssert hd hr hp)
    exact .inl rfl
  case data =>
    obtain ⟨-, -, hk⟩ := whenEnabled_next.mp hx
    split at hk <;> cases hk
    exact .inl rfl
  case clkHigh =>
    cases hx.symm.trans (exec_txClkHigh hd hr hp)
    exact .inl rfl
  case clkLow =>
    cases hx.symm.trans (exec_txClkLow hd hr hp)
    exact .inl rfl
  case csDeassert =>
    cases hx.symm.trans (exec_txCsDeassert hd hr hp)
    exact .inl rfl
  case release =>
    cases hs : s.txsrc with
    | host =>
      cases hx.symm.trans (exec_txRelease_host hd hr hp hs)
      exact .inr ⟨rfl, rfl, rfl⟩
    | internal =>
      cases hx.symm.trans (exec_txRelease_internal hd hr hp hs)
      exact .inl rfl

/-- The three sources of a `SEND_RESULT` (R35): a `HOST_SEND` of more than 255 bytes, the poll at the bound of a busy
bus, and the `TX_RELEASE` of a host send; each with the state it leaves. -/
theorem stepInput_sendResult {e : Input} {s t : State} {r : SendResult} (h : stepInput e s = .next t)
    (he : t.events = s.events ++ [.sendResult r]) :
    (r = .payloadTooLong ∧ (∃ p, e = .hostSend p ∧ maxPayload < p.length) ∧ t = s.raise .payloadTooLong) ∨
      (r = .busBusyTimeout ∧ e = .tick ∧ s.polling = true ∧ s.csIn = true ∧
        s.cfg.busFreeTimeoutPolls ≤ s.hostPolls + 1 ∧ t = (s.raise .busBusyTimeout).clearRequest) ∨
      (r = .ok ∧ e = .tick ∧ s.role = .sending ∧ s.txph = .release ∧ s.txsrc = .host ∧
        t = s.releaseBus.finishHostSend) := by
  cases e with
  | hostInit c k d =>
    obtain ⟨-, rfl⟩ := stepInput_hostInit_next h
    simp at he
  | hostSend p =>
    rcases stepInput_hostSend_next h with ⟨-, rfl⟩ | ⟨hlong, rfl⟩
    · simp at he
    · obtain rfl : .payloadTooLong = r := by simpa using he
      exact .inl ⟨rfl, ⟨p, rfl, hlong⟩, rfl⟩
  | pin l v => rcases stepInput_pin_events h with hs | ⟨p, hs⟩ <;> simp [hs] at he
  | call w =>
    obtain ⟨f, rfl⟩ := stepInput_call h
    simp at he
  | tick =>
    cases hr : s.role with
    | receiving =>
      have hp : s.polling = true := polling_of_stepInput_tick hr h
      rw [stepInput_tick_polling hp] at h
      rcases exec_txPoll_next h with ⟨-, rfl⟩ | ⟨hc, hn, rfl⟩ | ⟨-, -, rfl⟩
      · simp at he
      · obtain rfl : .busBusyTimeout = r := by simpa using he
        exact .inr (.inl ⟨rfl, rfl, hp, hc, hn, rfl⟩)
      · simp at he
    | sending =>
      rcases stepInput_tick_sending_events hr h with hs | ⟨hp, hs, rfl⟩
      · simp [hs] at he
      · obtain rfl : .ok = r := by simpa [finishHostSend_eq] using he
        exact .inr (.inr ⟨rfl, rfl, rfl, hp, hs, rfl⟩)

/-- Settles O10: of the three sources of a `SEND_RESULT` only the long `HOST_SEND` gives `PayloadTooLong`. -/
theorem payloadTooLongOnlyAtHostSend : Obligations.PayloadTooLongOnlyAtHostSend := by
  intro s e t h he
  rcases stepInput_sendResult h he with ⟨-, hsend, rfl⟩ | ⟨hr, -⟩ | ⟨hr, -⟩
  · exact ⟨hsend, rfl⟩
  · cases hr
  · cases hr

end Sys2Proof.Machine
end

section
/-! PROOFS. A host send on a bus that stays busy (R101, R152): every poll below the bound only counts, and the one at
the bound gives up. -/

namespace Sys2Proof.Machine

/-- A payload a frame can carry is latched while no host send is outstanding (R100). -/
theorem stepInput_hostSend_latches {s : State} {p : Payload} (hd : s.initDone = true)
    (hv : s.hostReq.valid = false) (hf : p.length ≤ maxPayload) :
    stepInput (.hostSend p) s = .next { s with hostReq := ⟨true, p⟩, hostPolls := 0 } := by
  rw [stepInput_of_selected (selected_hostSend p s)]
  refine (whenEnabled_of hd (by simp [hv])).trans ?_
  rw [if_neg (Nat.not_lt.mpr hf)]

/-- On a busy bus the last `n + 1` polls of a waiting request end it with `BusBusyTimeout`. -/
theorem runInputs_ticks_timeout {n : Nat} {s : State} (hd : s.initDone = true) (hp : s.polling = true)
    (hc : s.csIn = true) (hn : s.hostPolls + (n + 1) = s.cfg.busFreeTimeoutPolls) :
    runInputs (List.replicate (n + 1) .tick) s = .next (s.raise .busBusyTimeout).clearRequest := by
  induction n generalizing s with
  | zero =>
    exact runInputs_cons_next ((stepInput_tick_polling hp).trans (exec_txPoll_exhausted hd hp hc hn.ge)) []
  | succ n ih =>
    have hcount : stepInput .tick s = .next { s with hostPolls := s.hostPolls + 1 } :=
      (stepInput_tick_polling hp).trans (exec_txPoll_busy hd hp hc (by omega))
    rw [List.replicate_succ, runInputs_cons_next hcount]
    exact ih hd hp hc (by simp only; omega)

/-- Settles O21: of the three sources of a `SEND_RESULT` only the poll at the bound gives `BusBusyTimeout`; a latched
request reaches that poll after `BUS_FREE_TIMEOUT_POLLS` busy ones. -/
theorem busBusyTimeoutLeavesNoTrace : Obligations.BusBusyTimeoutLeavesNoTrace := by
  refine ⟨fun s e t h he => ?_, fun s p hcfg hd hr hidle hv hc hf => ?_⟩
  · rcases stepInput_sendResult h he with ⟨hres, -⟩ | ⟨-, htick, hp, hc, hn, -⟩ | ⟨hres, -⟩
    · cases hres
    · obtain ⟨hr, hv, -⟩ := polling_iff.mp hp
      exact ⟨htick, hr, hv, hc, hn⟩
    · cases hres
  · obtain ⟨-, hpos, -, -⟩ := hcfg
    obtain ⟨n, hn⟩ := Nat.exists_eq_add_of_le' hpos
    rw [runInputs_cons_next (stepInput_hostSend_latches hd hv hf), hn]
    have hp : ({ s with hostReq := ⟨true, p⟩, hostPolls := 0 } : State).polling = true :=
      polling_iff.mpr ⟨hr, rfl, hidle⟩
    exact runInputs_ticks_timeout hd hp hc (by simp [hn])

end Sys2Proof.Machine
end

section
/-! PROOFS. A frame as a run of bytes: what it holds bit by bit, what `DECODE` reads of it, and what a flipped bit does
to it (R71, R91, R92, R94). -/

namespace Sys2Proof.Machine

/-- The bytes of the frame of a payload (R71). -/
def frameBytes (p : Payload) : Payload := BitVec.ofNat 8 p.length :: (p ++ [checksum p])

theorem frameBits_eq_flatMap (p : Payload) : frameBits p = (frameBytes p).flatMap msb8 := by
  simp [frameBits, frameBytes]

@[simp] theorem length_frameBytes (p : Payload) : (frameBytes p).length = p.length + 2 := by
  simp [frameBytes]

theorem toNat_lengthByte {p : Payload} (hf : p.length ≤ maxPayload) : (BitVec.ofNat 8 p.length).toNat = p.length := by
  rw [maxPayload] at hf
  rw [BitVec.toNat_ofNat, Nat.mod_eq_of_lt (by omega)]

/-- Bit `k` of byte `j` of a run of byte fields. -/
theorem getElem?_flatMap_msb8 {bs : Payload} {j k : Nat} (hj : j < bs.length) (hk : k < 8) :
    (bs.flatMap msb8)[8 * j + k]? = some (bs[j].getLsbD (7 - k)) := by
  rw [getElem?_eq_byteAt (by rw [length_flatMap_msb8]; omega) hk]
  have hbyte := byteAt_flatMap_msb8 bs [] j hj
  rw [List.append_nil] at hbyte
  rw [hbyte]

/-- Bit `k` of byte `j` of a frame. -/
theorem getElem?_frameBits (p : Payload) {j k : Nat} (hj : j < (frameBytes p).length) (hk : k < 8) :
    (frameBits p)[8 * j + k]? = some ((frameBytes p)[j].getLsbD (7 - k)) := by
  rw [frameBits_eq_flatMap, getElem?_flatMap_msb8 hj hk]

theorem getElem?_frameBits_length (p : Payload) {k : Nat} (hk : k < 8) :
    (frameBits p)[k]? = some ((BitVec.ofNat 8 p.length).getLsbD (7 - k)) := by
  rw [← Nat.zero_add k, ← Nat.mul_zero 8, getElem?_frameBits p (by simp) hk, Nat.mul_zero, Nat.zero_add]
  rfl

/-- `DECODE` of a run of bytes long enough for its length byte (R92). -/
theorem frameDecode_bytes {L : Byte} {bs : Payload} (h : L.toNat < bs.length) (t : BitSeq) :
    frameDecode ((L :: bs).flatMap msb8 ++ t) =
      .ok { length := L.toNat, payload := bs.take L.toNat, checksum := bs[L.toNat],
            valid := bs[L.toNat] == checksum (bs.take L.toNat) } := by
  have hbyte (j : Nat) (hj : j < bs.length) : byteAt ((L :: bs).flatMap msb8 ++ t) (8 + 8 * j) = bs[j] := by
    rw [show 8 + 8 * j = 8 * (j + 1) by omega]
    exact byteAt_flatMap_msb8 (L :: bs) t (j + 1) (by simpa using hj)
  have hlen : byteAt ((L :: bs).flatMap msb8 ++ t) 0 = L := byteAt_flatMap_msb8 (L :: bs) t 0 (by simp)
  have hpayload : payloadOf ((L :: bs).flatMap msb8 ++ t) L.toNat = bs.take L.toNat := by
    refine List.ext_getElem (by simp; omega) fun i hi _ => ?_
    rw [length_payloadOf] at hi
    rw [getElem_payloadOf, List.getElem_take, hbyte i (by omega)]
  rcases frameDecode_cases ((L :: bs).flatMap msb8 ++ t) with ⟨-, hshort⟩ | ⟨hok, -⟩
  · rw [hlen, List.length_append, length_flatMap_msb8, List.length_cons, frameLength] at hshort
    omega
  · rw [hok, hlen, hpayload, hbyte _ h]

/-- `DECODE` of fewer bits than the length field announces (R92). -/
theorem frameDecode_short {b : BitSeq} (h : b.length < frameLength (byteAt b 0).toNat) :
    frameDecode b = .error .incompleteFrame := by
  rcases frameDecode_cases b with ⟨herr, -⟩ | ⟨-, hlong⟩
  · exact herr
  · omega

/-- `DECODE` inverts `ENCODE`, whatever follows the frame (R93). -/
theorem frameDecode_frameBits_append {p : Payload} (hf : p.length ≤ maxPayload) (t : BitSeq) :
    frameDecode (frameBits p ++ t) =
      .ok { length := p.length, payload := p, checksum := checksum p, valid := true } := by
  have hL := toNat_lengthByte hf
  rw [frameBits_eq_flatMap, frameBytes, frameDecode_bytes (by simp [hL]) t]
  simp [hL]

theorem frameDecode_frameBits {p : Payload} (hf : p.length ≤ maxPayload) :
    frameDecode (frameBits p) =
      .ok { length := p.length, payload := p, checksum := checksum p, valid := true } := by
  rw [← frameDecode_frameBits_append hf [], List.append_nil]

/-- A proper initial part of a frame is incomplete (R93): its length field, if it is there, announces the whole. -/
theorem frameDecode_take_frameBits {p : Payload} (hf : p.length ≤ maxPayload) {n : Nat}
    (hn : n < (frameBits p).length) : frameDecode ((frameBits p).take n) = .error .incompleteFrame := by
  have hlen : ((frameBits p).take n).length = n := by rw [List.length_take]; omega
  refine frameDecode_short ?_
  rw [hlen]
  by_cases h8 : n < 8
  · rw [frameLength]; omega
  · have hfield : byteAt ((frameBits p).take n) 0 = BitVec.ofNat 8 p.length := by
      rw [← byteAt_append_left (by omega) ((frameBits p).drop n), List.take_append_drop, frameBits_eq_flatMap,
        frameBytes, List.flatMap_cons, byteAt_msb8_append]
    rwa [hfield, toNat_lengthByte hf, frameLength, ← length_frameBits]

/-- Settles O4, by the round trip with surplus and the length field of an initial part. -/
theorem frameRoundTrip : Obligations.FrameRoundTrip :=
  fun _ hf => ⟨_, frameEncode_fits hf, frameDecode_frameBits_append hf, fun _ hn => frameDecode_take_frameBits hf hn⟩

/-- Settles O2: the frame's bytes, each written most significant bit first. -/
theorem encodeLaysOutFrame : Obligations.EncodeLaysOutFrame := by
  intro p s
  refine ⟨fun hf => ⟨frameBits p, ?_, length_frameBits p, fun k hk => ?_, fun i hi k hk => ?_, fun k hk => ?_⟩,
    fun hlong => ?_⟩
  · simp [exec, execEncode, encodeResult, frameEncode_fits hf]
  · rw [getElem?_frameBits_length p hk, BitVec.getLsbD_ofNat, decide_eq_true (by omega : 7 - k < 8), Bool.true_and]
  · rw [show 8 + 8 * i = 8 * (i + 1) by omega, getElem?_frameBits p (by simp; omega) hk]
    simp [frameBytes, hi]
  · rw [← checksum_toNat, show 8 + 8 * p.length = 8 * (p.length + 1) by omega, getElem?_frameBits p (by simp) hk]
    simp [frameBytes, BitVec.getLsbD]
  · simp [exec, execEncode, encodeResult, frameEncode_long hlong]

/-- Settles O6. -/
theorem fixedFramesAreThePatterns : Obligations.FixedFramesAreThePatterns := by
  unfold Obligations.FixedFramesAreThePatterns
  decide

/-- A byte with one bit flipped, counted from the most significant, as a frame is. -/
def flipBit (k : Nat) (v : Byte) : Byte := v ^^^ BitVec.twoPow 8 (7 - k)

theorem flipBit_ne {k : Nat} (hk : k < 8) (v : Byte) : flipBit k v ≠ v := by
  intro h
  have hbit := congrArg (BitVec.getLsbD · (7 - k)) h
  simp [flipBit, show 7 - k < 8 by omega] at hbit

set_option maxRecDepth 100000 in
/-- A flipped bit changes the value of a byte by the bit's weight, for the 256 bytes. -/
theorem toNat_flipBit_fin : ∀ (n : Fin 256) (k : Fin 8),
    (flipBit k (BitVec.ofFin n)).toNat + (if n.val.testBit (7 - k) then 2 ^ (7 - k.val) else 0) =
      n.val + (if n.val.testBit (7 - k) then 0 else 2 ^ (7 - k.val)) := by decide

theorem toNat_flipBit_of_zero {k : Nat} (hk : k < 8) {v : Byte} (hv : v.getLsbD (7 - k) = false) :
    (flipBit k v).toNat = v.toNat + 2 ^ (7 - k) := by
  have h := toNat_flipBit_fin v.toFin ⟨k, hk⟩
  rw [if_neg (by simpa [BitVec.getLsbD] using hv), if_neg (by simpa [BitVec.getLsbD] using hv)] at h
  exact h

theorem toNat_flipBit_of_one {k : Nat} (hk : k < 8) {v : Byte} (hv : v.getLsbD (7 - k) = true) :
    (flipBit k v).toNat + 2 ^ (7 - k) = v.toNat := by
  have h := toNat_flipBit_fin v.toFin ⟨k, hk⟩
  rw [if_pos (by simpa [BitVec.getLsbD] using hv), if_pos (by simpa [BitVec.getLsbD] using hv)] at h
  exact h

/-- A flipped bit of a run of bytes is a flipped bit of one byte. -/
theorem modify_flatMap_msb8 (bs : Payload) (i : Nat) :
    (bs.flatMap msb8).modify i (!·) = (bs.modify (i / 8) (flipBit (i % 8))).flatMap msb8 := by
  induction bs generalizing i with
  | nil => simp
  | cons b bs ih =>
    rcases Nat.lt_or_ge i 8 with hi | hi
    · rw [Nat.div_eq_of_lt hi, Nat.mod_eq_of_lt hi]
      interval_cases i <;> simp [msb8, flipBit]
    · obtain ⟨j, rfl⟩ := Nat.exists_eq_add_of_le' hi
      rw [Nat.add_div_right j (by decide), Nat.add_mod_right, List.modify_succ_cons, List.flatMap_cons,
        List.flatMap_cons,
        ← ih j]
      simp [msb8]

theorem checksum_cons (b : Byte) (p : Payload) : checksum (b :: p) = b + checksum p := by
  simpa [checksum] using List.foldl_assoc (op := fun c b : Byte => c + b) (l := p) (a₁ := b) (a₂ := 0)

/-- A changed byte changes the checksum (R94). -/
theorem checksum_modify_ne {f : Byte → Byte} (hf : ∀ b, f b ≠ b) {p : Payload} {j : Nat} (hj : j < p.length) :
    checksum (p.modify j f) ≠ checksum p := by
  induction p generalizing j with
  | nil => cases hj
  | cons b p ih =>
    cases j with
    | zero => simpa [checksum_cons, BitVec.add_left_inj] using hf b
    | succ j => simpa [checksum_cons, BitVec.add_right_inj] using ih (Nat.lt_of_succ_lt_succ hj)

/-- A flipped bit after the length field leaves a frame of the same length with one byte changed. -/
theorem modify_frameBits_body (p : Payload) {i : Nat} (hi : 8 ≤ i) :
    (frameBits p).modify i (!·) =
      (BitVec.ofNat 8 p.length :: (p ++ [checksum p]).modify (i / 8 - 1) (flipBit (i % 8))).flatMap msb8 := by
  rw [frameBits_eq_flatMap, modify_flatMap_msb8, frameBytes, ← List.modify_succ_cons,
    Nat.sub_add_cancel (by omega : 1 ≤ i / 8)]

/-- A flipped bit of the length field leaves the payload and the checksum field as they are. -/
theorem modify_frameBits_length (p : Payload) {i : Nat} (hi : i < 8) :
    (frameBits p).modify i (!·) = (flipBit i (BitVec.ofNat 8 p.length) :: (p ++ [checksum p])).flatMap msb8 := by
  rw [frameBits_eq_flatMap, modify_flatMap_msb8, frameBytes, Nat.div_eq_of_lt hi, Nat.mod_eq_of_lt hi,
    List.modify_zero_cons]

/-- A frame with one payload byte or its checksum byte changed has a checksum mismatch. -/
theorem checksum_ne_of_modify {f : Byte → Byte} (hf : ∀ b, f b ≠ b) {p : Payload} {j : Nat} (hj : j ≤ p.length)
    (h : p.length < ((p ++ [checksum p]).modify j f).length) :
    ((p ++ [checksum p]).modify j f)[p.length] ≠ checksum (((p ++ [checksum p]).modify j f).take p.length) := by
  rw [List.take_modify, List.take_left, List.getElem_modify]
  rcases hj.lt_or_eq with hlt | rfl
  · simpa [hlt.ne] using (checksum_modify_ne hf hlt).symm
  · simpa [List.modify_eq_self] using hf (checksum p)

/-- Settles O5: a changed byte changes the checksum or the checksum field, and a larger length announces more bits
than there are. -/
theorem detectedSingleBitFlips : Obligations.DetectedSingleBitFlips := by
  intro p q i hq
  obtain ⟨hf, rfl⟩ := frameEncode_eq_some hq
  have hL := toNat_lengthByte hf
  refine ⟨fun hi hlen => ?_, fun hi hbit => ?_⟩
  · rw [length_frameBits] at hlen
    have hok := frameDecode_bytes (L := BitVec.ofNat 8 p.length)
      (bs := (p ++ [checksum p]).modify (i / 8 - 1) (flipBit (i % 8))) (by simp [hL]) []
    rw [List.append_nil, ← modify_frameBits_body p hi] at hok
    refine ⟨_, hok, beq_eq_false_iff_ne.mpr ?_⟩
    simp only [hL]
    exact checksum_ne_of_modify (flipBit_ne (Nat.mod_lt i (by decide))) (by omega) (by simp)
  · rw [getElem?_frameBits_length p hi, Option.some.injEq] at hbit
    refine frameDecode_short ?_
    rw [List.length_modify, length_frameBits, modify_frameBits_length p hi, List.flatMap_cons, byteAt_msb8_append,
      toNat_flipBit_of_zero hi hbit, hL, frameLength]
    have := Nat.two_pow_pos (7 - i)
    omega

/-- Settles O60: the frame's bytes under the shrunken length. -/
theorem shrinkingLengthFlipDecodesAPrefix : Obligations.ShrinkingLengthFlipDecodesAPrefix := by
  intro p q i hq hi hbit
  obtain ⟨hf, rfl⟩ := frameEncode_eq_some hq
  rw [getElem?_frameBits_length p hi, Option.some.injEq] at hbit
  have hsum := toNat_flipBit_of_one hi hbit
  rw [toNat_lengthByte hf] at hsum
  have hlt : (flipBit i (BitVec.ofNat 8 p.length)).toNat < p.length := by
    have := Nat.two_pow_pos (7 - i)
    omega
  have hok := frameDecode_bytes (L := flipBit i (BitVec.ofNat 8 p.length)) (bs := p ++ [checksum p])
    (by simp; omega) []
  rw [List.append_nil, ← modify_frameBits_length p hi, List.getElem_append_left hlt,
    List.take_append_of_le_length hlt.le] at hok
  exact ⟨_, hlt, hsum, hok⟩

end Sys2Proof.Machine
end

section
/-! PROOFS. Decode and encode agree (30_encoding.md sections 3 and 4), and the table's rows are disjoint. -/

namespace Sys2Proof

theorem exists_findRow {r : Row} (hr : r ∈ tableRows) {f : Format} {n v : Nat} (h : r.matchesWord f n v = true) :
    ∃ r', findRow f n v = some r' := by
  rw [findRow, ← Option.isSome_iff_exists, List.find?_isSome]
  exact ⟨r, hr, h⟩

/-- No selector matches two rows of the table. -/
theorem matchesWord_unique {r r' : Row} (hr : r ∈ tableRows) (hr' : r' ∈ tableRows) {f : Format} {n v : Nat}
    (h : r.matchesWord f n v = true) (h' : r'.matchesWord f n v = true) : r = r' := by
  obtain ⟨r₀, hfind⟩ := exists_findRow hr h
  have hone := filter_matchesWord_of_findRow hfind
  have hmem : r ∈ tableRows.filter (·.matchesWord f n v) := List.mem_filter.mpr ⟨hr, h⟩
  have hmem' : r' ∈ tableRows.filter (·.matchesWord f n v) := List.mem_filter.mpr ⟨hr', h'⟩
  rw [hone, List.mem_singleton] at hmem hmem'
  rw [hmem, hmem']

/-- Settles O48, by the one row that a selector matches. -/
theorem tableRowsAreDisjoint : Obligations.TableRowsAreDisjoint :=
  fun _ hr _ hr' _ _ _ h h' => matchesWord_unique hr hr' h h'

/-- The per-instruction lemmas together: the word of a well-formed operation matches the operation's own row. -/
theorem encodingInTable (i : Instr) : Laws.EncodingInTable.Statement i := by
  cases i with
  | hostInit c k d => exact Laws.EncodingInTable.hostInit c k d
  | hostSend p => exact Laws.EncodingInTable.hostSend p
  | txPoll => exact Laws.EncodingInTable.txPoll
  | txCsAssert => exact Laws.EncodingInTable.txCsAssert
  | txData => exact Laws.EncodingInTable.txData
  | txClkHigh => exact Laws.EncodingInTable.txClkHigh
  | txClkLow => exact Laws.EncodingInTable.txClkLow
  | txCsDeassert => exact Laws.EncodingInTable.txCsDeassert
  | txRelease => exact Laws.EncodingInTable.txRelease
  | tickNone => exact Laws.EncodingInTable.tickNone
  | evCsRise => exact Laws.EncodingInTable.evCsRise
  | evCsFall => exact Laws.EncodingInTable.evCsFall
  | evClkRise => exact Laws.EncodingInTable.evClkRise
  | evClkRiseIdle => exact Laws.EncodingInTable.evClkRiseIdle
  | evClkFall => exact Laws.EncodingInTable.evClkFall
  | evData v => exact Laws.EncodingInTable.evData v
  | evMasked l v => exact Laws.EncodingInTable.evMasked l v
  | evSteadyLow l => exact Laws.EncodingInTable.evSteadyLow l
  | evSteadyHigh l => exact Laws.EncodingInTable.evSteadyHigh l
  | fdEmpty => exact Laws.EncodingInTable.fdEmpty
  | fdErrorReplyIncomplete => exact Laws.EncodingInTable.fdErrorReplyIncomplete
  | fdErrorReplyMismatch => exact Laws.EncodingInTable.fdErrorReplyMismatch
  | fdDeliver p => exact Laws.EncodingInTable.fdDeliver p
  | fdResend => exact Laws.EncodingInTable.fdResend
  | fdResendNone => exact Laws.EncodingInTable.fdResendNone
  | checksum p => exact Laws.EncodingInTable.checksum p
  | encode p => exact Laws.EncodingInTable.encode p
  | decode b => exact Laws.EncodingInTable.decode b
  | frameEmpty => exact Laws.EncodingInTable.frameEmpty
  | frameSentinel => exact Laws.EncodingInTable.frameSentinel

/-- The word of a well-formed operation finds the operation's own row, since no other row matches it. -/
theorem findRow_encode {i : Instr} (hw : i.wf = true) :
    ∃ r, findRow (encode i).format (encode i).width (encode i).value = some r ∧ r.op = i.op := by
  obtain ⟨r, hr, hop, hm⟩ := encodingInTable i hw
  obtain ⟨r', hr'⟩ := exists_findRow hr hm
  obtain ⟨hmem, hm'⟩ := findRow_some hr'
  exact ⟨r', hr', matchesWord_unique hmem hr hm' hm ▸ hop⟩

/-- The operation's row builds it from the bits and the operand of its word. -/
theorem build_encode {i : Instr} (hw : i.wf = true) :
    build i.op (encode i).value (encode i).operand = some i := by
  cases i with
  | evData v => cases v <;> rfl
  | evMasked l v =>
    cases l with
    | data => cases hw
    | _ => cases v <;> rfl
  | evSteadyLow l | evSteadyHigh l => cases l <;> rfl
  | _ => rfl

/-- Decoding the word of a well-formed operation gives it back. -/
theorem decode_encode {i : Instr} (hw : i.wf = true) : decode (encode i) = .ok i := by
  obtain ⟨r, hr, hop⟩ := findRow_encode hw
  exact decode_of_row hr (hop ▸ build_encode hw) hw

/-- Settles O47: what decodes is well formed, and the word of a well-formed operation decodes to it. -/
theorem decodeEncodeAgree : Obligations.DecodeEncodeAgree := by
  refine ⟨fun i => decode_encode, fun w i h => ?_⟩
  obtain ⟨r, -, -, hw⟩ := decode_ok h
  exact ⟨hw, decode_encode hw⟩

/-- Settles O49, by running the decoder on the thirteen words. -/
theorem tableWordsDecode : Obligations.TableWordsDecode := by
  unfold Obligations.TableWordsDecode
  decide

end Sys2Proof
end

section
/-! PROOFS. Everything a step of an initialised framer can do, said once: the inputs, the guards and the state after
(R100 to R108, R120 to R137). -/

namespace Sys2Proof.Machine

/-- The steps of an initialised framer, one constructor for each outcome, named after the operation. -/
inductive Effect (s : State) : Input → State → Prop where
  | hostSend {p : Payload} (hv : s.hostReq.valid = false) (hf : p.length ≤ maxPayload) :
      Effect s (.hostSend p) { s with hostReq := ⟨true, p⟩, hostPolls := 0 }
  | hostSendTooLong {p : Payload} (hv : s.hostReq.valid = false) (hlong : maxPayload < p.length) :
      Effect s (.hostSend p) (s.raise .payloadTooLong)
  | call {w : OpWord} {r : FnResult} (hr : ∀ u, stepInput (.call w) u = .next { u with fnResult := r }) :
      Effect s (.call w) { s with fnResult := r }
  | quiet {l : Line} {v : Bit} (h : s.irqEn = false ∨ s.level l = v ∨ l = .data) :
      Effect s (.pin l v) (s.setLevel l v)
  | csRise (hq : s.irqEn = true) (hc : s.csIn = false) : Effect s (.pin .cs true) { s with csIn := true, rxbuf := [] }
  | clkRise (hq : s.irqEn = true) (hk : s.clkIn = false) (hc : s.csIn = true) :
      Effect s (.pin .clk true)
        { s with
          clkIn := true
          rxbuf := if s.rxbuf.length < s.cfg.maxBufferBits then s.rxbuf ++ [s.dataIn] else s.rxbuf }
  | clkRiseIdle (hq : s.irqEn = true) (hk : s.clkIn = false) (hc : s.csIn = false) :
      Effect s (.pin .clk true) (s.setLevel .clk true)
  | clkFall (hq : s.irqEn = true) (hk : s.clkIn = true) : Effect s (.pin .clk false) (s.setLevel .clk false)
  | csFallEmpty (hq : s.irqEn = true) (hc : s.csIn = true) (hb : s.rxbuf = []) :
      Effect s (.pin .cs false) { s with csIn := false, rxbuf := [] }
  | csFallReply (hq : s.irqEn = true) (hc : s.csIn = true) (hbad : isMalformed s.rxbuf = true) :
      Effect s (.pin .cs false) (({ s with csIn := false, rxbuf := [] } : State).acquire sentinelFrame .internal)
  | csFallResend {m : Message} (hq : s.irqEn = true) (hc : s.csIn = true) (hm : frameDecode s.rxbuf = .ok m)
      (hv : m.valid = true) (hp : m.payload = sentinel) (hl : s.lastValid = true) (hf : s.last.length ≤ maxPayload) :
      Effect s (.pin .cs false) (({ s with csIn := false, rxbuf := [] } : State).acquire (frameBits s.last) .internal)
  | csFallUnanswered {m : Message} (hq : s.irqEn = true) (hc : s.csIn = true) (hm : frameDecode s.rxbuf = .ok m)
      (hv : m.valid = true) (hp : m.payload = sentinel) (hl : s.lastValid = false) :
      Effect s (.pin .cs false) { s with csIn := false, rxbuf := [] }
  | csFallDeliver {m : Message} (hq : s.irqEn = true) (hc : s.csIn = true) (hm : frameDecode s.rxbuf = .ok m)
      (hv : m.valid = true) (hp : m.payload ≠ sentinel) :
      Effect s (.pin .cs false)
        ((({ s with csIn := false, rxbuf := [] } : State).retain m.payload).emit (.onMessage m.payload))
  | pollFree (hp : s.polling = true) (hc : s.csIn = false) (hf : s.hostReq.p.length ≤ maxPayload) :
      Effect s .tick (s.acquire (frameBits s.hostReq.p) .host)
  | pollTimeout (hp : s.polling = true) (hc : s.csIn = true) (hn : s.cfg.busFreeTimeoutPolls ≤ s.hostPolls + 1) :
      Effect s .tick (s.raise .busBusyTimeout).clearRequest
  | pollBusy (hp : s.polling = true) (hc : s.csIn = true) (hn : s.hostPolls + 1 < s.cfg.busFreeTimeoutPolls) :
      Effect s .tick { s with hostPolls := s.hostPolls + 1 }
  | csAssert (hr : s.role = .sending) (hp : s.txph = .csAssert) :
      Effect s .tick { s with csOut := true, txph := .data }
  | data (hr : s.role = .sending) (hp : s.txph = .data) (hlt : s.txidx < s.txseq.length) :
      Effect s .tick { s with dataOut := s.txseq[s.txidx], txph := .clkHigh }
  | clkHigh (hr : s.role = .sending) (hp : s.txph = .clkHigh) :
      Effect s .tick { s with clkOut := true, txph := .clkLow }
  | clkLow (hr : s.role = .sending) (hp : s.txph = .clkLow) :
      Effect s .tick
        { s with
          clkOut := false
          txidx := s.txidx + 1
          txph := if s.txidx + 1 = s.txseq.length then .csDeassert else .data }
  | csDeassert (hr : s.role = .sending) (hp : s.txph = .csDeassert) :
      Effect s .tick { s with csOut := false, txph := .release }
  | releaseHost (hr : s.role = .sending) (hp : s.txph = .release) (hs : s.txsrc = .host) :
      Effect s .tick
        { s with
          oe := false, role := .receiving, irqEn := true, txph := .idle
          events := s.events ++ [.sendResult .ok]
          hostReq := ⟨false, s.hostReq.p⟩
          hostPolls := 0
          last := if s.retains then s.hostReq.p else s.last
          lastValid := if s.retains then true else s.lastValid }
  | releaseInternal (hr : s.role = .sending) (hp : s.txph = .release) (hs : s.txsrc = .internal) :
      Effect s .tick s.releaseBus

/-- A malformed buffer is answered with the sentinel frame (R134). -/
theorem frameDone_malformed {b : BitSeq} (hbad : isMalformed b = true) (s : State) :
    frameDone b s = .next (s.acquire sentinelFrame .internal) := by
  have hb : b ≠ [] := by
    rintro rfl
    cases hbad
  cases hd : frameDecode b with
  | error e => exact frameDone_error hb hd s
  | ok m => exact frameDone_invalid hd (by simpa [isMalformed, hb, isValid_of_ok hd] using hbad) s

/-- A run of one operation is one `TICK`. -/
theorem TickRun.stepInput_eq {i : Instr} {s t : State} (h : TickRun [i] s t) : stepInput .tick s = .next t := by
  cases h with
  | cons sending select run rest =>
    cases rest
    exact (stepInput_of_selected select).trans run

/-- What a call answers is the same in every state, since a codec function reads no register (R84). -/
theorem stepInput_call_any {w : OpWord} {s t : State} (h : stepInput (.call w) s = .next t) :
    ∃ r, t = { s with fnResult := r } ∧ ∀ u, stepInput (.call w) u = .next { u with fnResult := r } := by
  obtain ⟨i, hi, hx⟩ := stepInput_next h
  have hany (u : State) : stepInput (.call w) u = exec i u := stepInput_of_selected hi
  rcases selected_call hi with ⟨p, rfl⟩ | ⟨p, rfl⟩ | ⟨b, rfl⟩ <;> cases hx <;> exact ⟨_, rfl, hany⟩

section Initialised

variable {s : State} (hd : s.initDone = true)
include hd

theorem stepInput_hostSend_too_long {p : Payload} (hv : s.hostReq.valid = false) (hlong : maxPayload < p.length) :
    stepInput (.hostSend p) s = .next (s.raise .payloadTooLong) := by
  rw [stepInput_of_selected (selected_hostSend p s)]
  refine (whenEnabled_of hd (by simp [hv])).trans ?_
  rw [if_pos hlong]

section Handled

variable (hq : s.irqEn = true)
include hq

theorem stepInput_csRise (hc : s.csIn = false) :
    stepInput (.pin .cs true) s = .next { s with csIn := true, rxbuf := [] } := by
  change stepInput (.pin .cs true) s = .next (s.setLevel .cs true).clearBuffer
  rw [stepInput_of_selected (selected_cs true s), hq, hc]
  exact exec_evCsRise hd hq hc

theorem stepInput_clkRise (hk : s.clkIn = false) (hc : s.csIn = true) :
    stepInput (.pin .clk true) s = .next
      { s with
        clkIn := true
        rxbuf := if s.rxbuf.length < s.cfg.maxBufferBits then s.rxbuf ++ [s.dataIn] else s.rxbuf } := by
  have hstep : stepInput (.pin .clk true) s = .next ((s.setLevel .clk true).capture s.dataIn) := by
    rw [stepInput_of_selected (selected_clk true s), hq, hk, hc]
    exact exec_evClkRise hd hq hk hc
  refine hstep.trans (congrArg _ ?_)
  split
  next hroom => exact State.capture_of_room (s := s.setLevel .clk true) hroom s.dataIn
  next hfull => exact State.capture_of_full (s := s.setLevel .clk true) (Nat.le_of_not_lt hfull) s.dataIn

theorem stepInput_clkRiseIdle (hk : s.clkIn = false) (hc : s.csIn = false) :
    stepInput (.pin .clk true) s = .next (s.setLevel .clk true) := by
  rw [stepInput_of_selected (selected_clk true s), hq, hk, hc]
  exact exec_evClkRiseIdle hd hq hk hc

theorem stepInput_clkFall (hk : s.clkIn = true) : stepInput (.pin .clk false) s = .next (s.setLevel .clk false) := by
  rw [stepInput_of_selected (selected_clk false s), hq, hk]
  exact exec_evClkFall hd hq hk

end Handled

/-- Every listed outcome is the step's. -/
theorem Effect.stepInput_eq {e : Input} {t : State} (h : Effect s e t) : stepInput e s = .next t := by
  cases h with
  | hostSend hv hf => exact stepInput_hostSend_latches hd hv hf
  | hostSendTooLong hv hlong => exact stepInput_hostSend_too_long hd hv hlong
  | call hr => exact hr s
  | quiet h => exact stepInput_pin_quiet hd h
  | csRise hq hc => exact stepInput_csRise hd hq hc
  | clkRise hq hk hc => exact stepInput_clkRise hd hq hk hc
  | clkRiseIdle hq hk hc => exact stepInput_clkRiseIdle hd hq hk hc
  | clkFall hq hk => exact stepInput_clkFall hd hq hk
  | csFallEmpty hq hc hb => rw [stepInput_csFall hd hq hc, hb]; rfl
  | csFallReply hq hc hbad => exact (stepInput_csFall hd hq hc).trans (frameDone_malformed hbad _)
  | csFallResend hq hc hm hv hp hl hf => exact (stepInput_csFall hd hq hc).trans (frameDone_resend hm hv hp hl hf)
  | csFallUnanswered hq hc hm hv hp hl => exact (stepInput_csFall hd hq hc).trans (frameDone_unanswered hm hv hp hl)
  | csFallDeliver hq hc hm hv hp => exact (stepInput_csFall hd hq hc).trans (frameDone_deliver hm hv hp _)
  | pollFree hp hc hf => exact (stepInput_tick_polling hp).trans (exec_txPoll_free hd hp hc hf)
  | pollTimeout hp hc hn => exact (stepInput_tick_polling hp).trans (exec_txPoll_exhausted hd hp hc hn)
  | pollBusy hp hc hn => exact (stepInput_tick_polling hp).trans (exec_txPoll_busy hd hp hc hn)
  | csAssert hr hp => exact (tickRun_txCsAssert hd hr hp).stepInput_eq
  | data hr hp hlt => exact (tickRun_txData hd hr hp hlt).stepInput_eq
  | clkHigh hr hp => exact (tickRun_txClkHigh hd hr hp).stepInput_eq
  | clkLow hr hp => exact (tickRun_txClkLow hd hr hp).stepInput_eq
  | csDeassert hr hp => exact (tickRun_txCsDeassert hd hr hp).stepInput_eq
  | releaseHost hr hp hs =>
    have hrun := exec_txRelease_host hd hr hp hs
    refine (stepInput_of_selected (by rw [selected_tick_sending hr, hp])).trans (hrun.trans ?_)
    rw [finishHostSend_eq]
    rfl
  | releaseInternal hr hp hs =>
    exact (stepInput_of_selected (by rw [selected_tick_sending hr, hp])).trans (exec_txRelease_internal hd hr hp hs)

/-- A step whose guards are those of a listed outcome has that outcome. -/
theorem Effect.of_stepInput {e : Input} {t u : State} (h : stepInput e s = .next t) (hu : Effect s e u) :
    Effect s e t := by
  cases h.symm.trans (hu.stepInput_eq hd)
  exact hu

theorem effect_hostSend {p : Payload} {t : State} (h : stepInput (.hostSend p) s = .next t) :
    Effect s (.hostSend p) t := by
  have hx := h
  rw [stepInput_of_selected (selected_hostSend p s)] at hx
  obtain ⟨-, hv, -⟩ := whenEnabled_next.mp hx
  replace hv : s.hostReq.valid = false := by simpa using hv
  rcases Nat.lt_or_ge maxPayload p.length with hlong | hf
  · exact .of_stepInput hd h (.hostSendTooLong hv hlong)
  · exact .of_stepInput hd h (.hostSend hv hf)

theorem effect_csFall (hq : s.irqEn = true) (hc : s.csIn = true) {t : State}
    (h : stepInput (.pin .cs false) s = .next t) : Effect s (.pin .cs false) t := by
  rcases frameDone_cases s.rxbuf (s.setLevel .cs false).clearBuffer with
    ⟨hb, -⟩ | ⟨-, hbad, -⟩ | ⟨m, hm, hv, hp, hl, hres⟩ | ⟨m, hm, hv, hp, hl, -⟩ | ⟨m, hm, hv, hp, -⟩
  · exact .of_stepInput hd h (.csFallEmpty hq hc hb)
  · exact .of_stepInput hd h (.csFallReply hq hc hbad)
  · rw [stepInput_csFall hd hq hc, hres] at h
    rcases sendFrame_cases (s.setLevel .cs false).clearBuffer.last .internal (s.setLevel .cs false).clearBuffer with
      ⟨hf, hs⟩ | ⟨-, hs⟩ <;> cases h.symm.trans hs
    exact .csFallResend hq hc hm hv hp hl hf
  · exact .of_stepInput hd h (.csFallUnanswered hq hc hm hv hp hl)
  · exact .of_stepInput hd h (.csFallDeliver hq hc hm hv hp)

theorem effect_pin {l : Line} {v : Bit} {t : State} (h : stepInput (.pin l v) s = .next t) :
    Effect s (.pin l v) t := by
  by_cases hquiet : s.irqEn = false ∨ s.level l = v ∨ l = .data
  · exact .of_stepInput hd h (.quiet hquiet)
  push Not at hquiet
  obtain ⟨hq, hv, hl⟩ := hquiet
  replace hq : s.irqEn = true := Bool.eq_true_of_not_eq_false hq
  replace hv : s.level l = !v := Bool.eq_not.mpr hv
  cases l with
  | data => exact absurd rfl hl
  | cs =>
    cases v with
    | true => exact .of_stepInput hd h (.csRise hq hv)
    | false => exact effect_csFall hd hq hv h
  | clk =>
    cases v with
    | false => exact .of_stepInput hd h (.clkFall hq hv)
    | true =>
      cases hc : s.csIn with
      | true => exact .of_stepInput hd h (.clkRise hq hv hc)
      | false => exact .of_stepInput hd h (.clkRiseIdle hq hv hc)

theorem effect_poll (hr : s.role = .receiving) {t : State} (h : stepInput .tick s = .next t) : Effect s .tick t := by
  have hp : s.polling = true := polling_of_stepInput_tick hr h
  cases hc : s.csIn with
  | true =>
    rcases Nat.lt_or_ge (s.hostPolls + 1) s.cfg.busFreeTimeoutPolls with hn | hn
    · exact .of_stepInput hd h (.pollBusy hp hc hn)
    · exact .of_stepInput hd h (.pollTimeout hp hc hn)
  | false =>
    rw [stepInput_tick_polling hp] at h
    obtain ⟨-, -, hk⟩ := whenEnabled_next.mp h
    rw [hc] at hk
    rcases sendFrame_cases s.hostReq.p .host s with ⟨hf, hs⟩ | ⟨-, hs⟩ <;> cases hk.symm.trans hs
    exact .pollFree hp hc hf

theorem effect_tick_sending (hr : s.role = .sending) {t : State} (h : stepInput .tick s = .next t) :
    Effect s .tick t := by
  cases hp : s.txph with
  | idle =>
    obtain ⟨i, hi, -⟩ := stepInput_next h
    rw [selected_tick_sending hr, hp] at hi
    cases hi
  | csAssert => exact .of_stepInput hd h (.csAssert hr hp)
  | data =>
    rw [stepInput_of_selected (by rw [selected_tick_sending hr, hp])] at h
    obtain ⟨-, -, hk⟩ := whenEnabled_next.mp h
    by_cases hlt : s.txidx < s.txseq.length
    · cases h.symm.trans (exec_txData hd hr hp hlt)
      exact .data hr hp hlt
    · rw [List.getElem?_eq_none (by omega)] at hk
      cases hk
  | clkHigh => exact .of_stepInput hd h (.clkHigh hr hp)
  | clkLow => exact .of_stepInput hd h (.clkLow hr hp)
  | csDeassert => exact .of_stepInput hd h (.csDeassert hr hp)
  | release =>
    cases hs : s.txsrc with
    | host => exact .of_stepInput hd h (.releaseHost hr hp hs)
    | internal => exact .of_stepInput hd h (.releaseInternal hr hp hs)

/-- The steps of an initialised framer are exactly the listed ones. -/
theorem stepInput_iff_effect {e : Input} {t : State} : stepInput e s = .next t ↔ Effect s e t := by
  refine ⟨fun h => ?_, Effect.stepInput_eq hd⟩
  cases e with
  | hostInit c k d =>
    rw [stepInput_hostInit_initialised hd] at h
    cases h
  | hostSend p => exact effect_hostSend hd h
  | call w =>
    obtain ⟨r, rfl, hr⟩ := stepInput_call_any h
    exact .call hr
  | pin l v => exact effect_pin hd h
  | tick =>
    cases hr : s.role with
    | receiving => exact effect_poll hd hr h
    | sending => exact effect_tick_sending hd hr h

end Initialised

end Sys2Proof.Machine
end

section
/-! PROOFS. The invariant: each kind of write keeps it, so every step does (R36). -/

namespace Sys2Proof.Machine

/-- For an initialised framer the bounds of the payload registers are part of R36 (e). -/
theorem State.Inv.of_spec {s : State} (hcfg : s.cfg.Valid) (hspec : s.SpecInvariants) (hphase : s.phaseAgrees)
    (hsource : s.sourceAgrees) : s.Inv := by
  obtain ⟨-, hreq, hlast⟩ := hspec.requestBounded
  exact ⟨hcfg, hlast, hreq, fun _ => hspec, fun _ => hphase, fun _ => hsource⟩

/-- No invariant reads the Clock and Data levels or the model's own fields. -/
theorem State.Inv.ports {s : State} (h : s.Inv) (k d : Bit) (is : List Input) (es : List Event) (r : FnResult) :
    ({ s with clkIn := k, dataIn := d, inputs := is, events := es, fnResult := r } : State).Inv where
  cfgValid := h.cfgValid
  lastFits := h.lastFits
  requestFits := h.requestFits
  spec hd :=
    have hs := h.spec hd
    { roleAgrees := hs.roleAgrees
      bufferBounded := hs.bufferBounded
      bufferInFrame := hs.bufferInFrame
      frameInFlight := hs.frameInFlight
      requestBounded := hs.requestBounded
      lastNotSentinel := hs.lastNotSentinel }
  phase := h.phase
  source := h.source

theorem State.Inv.emit {s : State} (h : s.Inv) (e : Event) : (s.emit e).Inv :=
  h.ports s.clkIn s.dataIn s.inputs _ s.fnResult

theorem State.Inv.popInput {s : State} (h : s.Inv) : s.popInput.Inv :=
  h.ports s.clkIn s.dataIn _ s.events s.fnResult

/-- `HOST_INIT` establishes the invariant, whatever the registers held (R37). -/
theorem State.Inv.initialise {s : State} (hcfg : s.cfg.Valid) (hlast : s.last.length ≤ maxPayload)
    (hreq : s.hostReq.p.length ≤ maxPayload) (c k d : Bit) : (s.initialise c k d).Inv :=
  .of_spec hcfg
    { roleAgrees := by simp [State.roleAgrees]
      bufferBounded := by simp [State.bufferBounded, State.rxcnt]
      bufferInFrame := by simp [State.bufferInFrame]
      frameInFlight := by simp [State.frameInFlight]
      requestBounded := ⟨by simp, hreq, hlast⟩
      lastNotSentinel := by simp [State.lastNotSentinel] }
    ⟨rfl, rfl⟩ (by simp [State.sourceAgrees])

section Initialised

variable {s : State} (h : s.Inv) (hd : s.initDone = true)
include h hd

/-- The buffer may be written while a frame is received, or cleared; CS may fall once it is empty (R36 (b), (c)). -/
theorem State.Inv.buffer {c : Bit} {b : BitSeq} (hb : b.length ≤ s.cfg.maxBufferBits)
    (hc : b ≠ [] → c = true ∧ s.role = .receiving) : ({ s with csIn := c, rxbuf := b } : State).Inv :=
  have hs := h.spec hd
  .of_spec h.cfgValid
    { roleAgrees := hs.roleAgrees
      bufferBounded := hb
      bufferInFrame := hc
      frameInFlight := hs.frameInFlight
      requestBounded := hs.requestBounded
      lastNotSentinel := hs.lastNotSentinel }
    (h.phase hd) (h.source hd)

/-- A CS edge may empty the buffer (R121, R123). -/
theorem State.Inv.emptyBuffer (c : Bit) : ({ s with csIn := c, rxbuf := [] } : State).Inv :=
  h.buffer hd (Nat.zero_le _) fun hne => absurd rfl hne

/-- A request may be written within its ranges while no host send is in flight (R36 (e)). -/
theorem State.Inv.request {q : HostReq} {n : Nat} (hr : s.role = .sending → s.txsrc ≠ .host)
    (hn : q.valid = true → n < s.cfg.busFreeTimeoutPolls) (hq : q.p.length ≤ maxPayload) :
    ({ s with hostReq := q, hostPolls := n } : State).Inv :=
  have hs := h.spec hd
  .of_spec h.cfgValid
    { roleAgrees := hs.roleAgrees
      bufferBounded := hs.bufferBounded
      bufferInFrame := hs.bufferInFrame
      frameInFlight := hs.frameInFlight
      requestBounded := ⟨hn, hq, h.lastFits⟩
      lastNotSentinel := hs.lastNotSentinel }
    (h.phase hd)
    fun hsend => by
      obtain ⟨p, hf, hseq, -⟩ := h.source hd hsend
      exact ⟨p, hf, hseq, fun hhost => absurd hhost (hr hsend)⟩

/-- A payload that fits and is not the sentinel may be retained (R36 (e), (f)). -/
theorem State.Inv.retain {p : Payload} (hf : p.length ≤ maxPayload) (hp : p ≠ sentinel) : (s.retain p).Inv :=
  have hs := h.spec hd
  .of_spec h.cfgValid
    { roleAgrees := hs.roleAgrees
      bufferBounded := hs.bufferBounded
      bufferInFrame := hs.bufferInFrame
      frameInFlight := hs.frameInFlight
      requestBounded :=
        have ⟨hpolls, hreq, _⟩ := hs.requestBounded
        ⟨hpolls, hreq, hf⟩
      lastNotSentinel := fun _ => hp }
    (h.phase hd) (h.source hd)

/-- With an empty buffer the bus may be taken with the frame of a payload, the request's for a host send (R102). -/
theorem State.Inv.acquire {p : Payload} {c : Source} (hb : s.rxbuf = []) (hf : p.length ≤ maxPayload)
    (hc : c = .host → s.hostReq.valid = true ∧ s.hostReq.p = p) : (s.acquire (frameBits p) c).Inv :=
  have hs := h.spec hd
  .of_spec h.cfgValid
    { roleAgrees := by simp [State.roleAgrees]
      bufferBounded := hs.bufferBounded
      bufferInFrame := fun hne => absurd hb hne
      frameInFlight := fun _ => by
        rw [maxPayload] at hf
        simp only [State.acquire_txseq, State.acquire_txidx, length_frameBits]
        omega
      requestBounded := hs.requestBounded
      lastNotSentinel := hs.lastNotSentinel }
    ⟨rfl, rfl, rfl⟩ fun _ => ⟨p, hf, rfl, hc⟩

/-- A micro-step within the frame keeps the invariant if it leads to its place in the frame (R109). -/
theorem State.Inv.microStep {cs clk d : Bit} {n : Nat} {ph : Phase} (hr : s.role = .sending) (hidle : ph ≠ .idle)
    (hn : n ≤ s.txseq.length)
    (hphase : ({ s with csOut := cs, clkOut := clk, dataOut := d, txidx := n, txph := ph } : State).phaseAgrees) :
    ({ s with csOut := cs, clkOut := clk, dataOut := d, txidx := n, txph := ph } : State).Inv :=
  have hs := h.spec hd
  .of_spec h.cfgValid
    { roleAgrees := by
        obtain ⟨hirq, hoe, -⟩ := hs.roleAgrees
        exact ⟨hirq, hoe, by simp [hr, hidle]⟩
      bufferBounded := hs.bufferBounded
      bufferInFrame := hs.bufferInFrame
      frameInFlight := fun _ =>
        have ⟨hmin, hmax, hbyte, _⟩ := hs.frameInFlight hr
        ⟨hmin, hmax, hbyte, hn⟩
      requestBounded := hs.requestBounded
      lastNotSentinel := hs.lastNotSentinel }
    hphase (h.source hd)

/-- While `Sending` the buffer is empty (R36 (c)). -/
theorem State.Inv.rxbuf_of_sending (hr : s.role = .sending) : s.rxbuf = [] := by
  by_contra hne
  obtain ⟨-, hrec⟩ := (h.spec hd).bufferInFrame hne
  cases hr.symm.trans hrec

/-- With CS inactive the buffer is empty (R36 (c)). -/
theorem State.Inv.rxbuf_of_csIn (hc : s.csIn = false) : s.rxbuf = [] := by
  by_contra hne
  obtain ⟨hcs, -⟩ := (h.spec hd).bufferInFrame hne
  cases hc.symm.trans hcs

/-- The release of the bus in its phase (R108): CS and Clock are already low. -/
theorem State.Inv.releaseBus (hr : s.role = .sending) (hp : s.txph = .release) : s.releaseBus.Inv :=
  have hs := h.spec hd
  .of_spec h.cfgValid
    { roleAgrees := by simp [State.roleAgrees]
      bufferBounded := hs.bufferBounded
      bufferInFrame := fun hne => absurd (h.rxbuf_of_sending hd hr) hne
      frameInFlight := by simp [State.frameInFlight]
      requestBounded := hs.requestBounded
      lastNotSentinel := hs.lastNotSentinel }
    (by
      have hphase := h.phase hd
      rw [State.phaseAgrees, hp] at hphase
      obtain ⟨-, hcs, hclk⟩ := hphase
      exact ⟨hcs, hclk⟩)
    (by simp [State.sourceAgrees])

/-- While `Receiving` an open request may be closed (R101, R108). -/
theorem State.Inv.clearRequest (hr : s.role = .receiving) : s.clearRequest.Inv :=
  h.request hd (by simp [hr]) (by simp) h.requestFits

/-- The end of a host send, once the bus is released (R108). -/
theorem State.Inv.finishHostSend (hr : s.role = .receiving) : s.finishHostSend.Inv := by
  have htold : (s.raise .ok).Inv := h.emit _
  rw [State.finishHostSend]
  cases hk : s.retains with
  | false => exact htold.clearRequest hd hr
  | true =>
    obtain ⟨-, hp⟩ := retains_iff.mp hk
    exact (htold.retain hd h.requestFits hp).clearRequest hd hr

/-- A pin step that only tracks its level keeps the invariant: CS falls so only without bits in the buffer. -/
theorem State.Inv.setLevel {l : Line} {v : Bit} (hl : l = .cs → v = false → s.rxbuf = []) : (s.setLevel l v).Inv := by
  cases l with
  | clk => exact h.ports v s.dataIn s.inputs s.events s.fnResult
  | data => exact h.ports s.clkIn v s.inputs s.events s.fnResult
  | cs =>
    refine h.buffer hd (h.spec hd).bufferBounded fun hne => ⟨?_, ?_⟩
    · exact Bool.eq_true_of_not_eq_false fun hv => hne (hl rfl hv)
    · obtain ⟨-, hr⟩ := (h.spec hd).bufferInFrame hne
      exact hr

/-- The sequencer's loop test leads to the place after the bit just sent (R106). -/
theorem State.Inv.clkLow (hr : s.role = .sending) (hp : s.txph = .clkLow) :
    ({ s with
      clkOut := false
      txidx := s.txidx + 1
      txph := if s.txidx + 1 = s.txseq.length then .csDeassert else .data } : State).Inv := by
  have hphase := h.phase hd
  rw [State.phaseAgrees, hp] at hphase
  obtain ⟨hbit, hcs, -⟩ := hphase
  have hlt : s.txidx < s.txseq.length := (List.getElem?_eq_some_iff.mp hbit).1
  split
  next hlast => exact h.microStep hd hr (by simp) hlt ⟨hlast, hcs, rfl⟩
  next hmore => exact h.microStep hd hr (by simp) hlt ⟨by simp only; omega, hcs, rfl⟩

/-- Every step of an initialised framer keeps the invariant. -/
theorem Effect.inv {e : Input} {t : State} (he : Effect s e t) : t.Inv := by
  have hs := h.spec hd
  have hphase := h.phase hd
  obtain ⟨hirq, -⟩ := hs.roleAgrees
  rw [State.phaseAgrees] at hphase
  cases he with
  | hostSend hv hf =>
    refine h.request hd (fun hr hhost => ?_) (fun _ => ?_) hf
    · obtain ⟨_, -, -, hreq⟩ := h.source hd hr
      obtain ⟨hvalid, -⟩ := hreq hhost
      cases hv.symm.trans hvalid
    · obtain ⟨-, hpos, -⟩ := h.cfgValid
      exact hpos
  | hostSendTooLong => exact h.emit _
  | call => exact h.ports s.clkIn s.dataIn s.inputs s.events _
  | quiet hquiet =>
    refine h.setLevel hd ?_
    rintro rfl rfl
    rcases hquiet with hm | hc | hl
    · exact h.rxbuf_of_sending hd (by cases hr : s.role <;> simp_all)
    · exact h.rxbuf_of_csIn hd hc
    · cases hl
  | csRise => exact h.emptyBuffer hd true
  | clkRise hq hk hc =>
    refine (h.ports true s.dataIn s.inputs s.events s.fnResult).buffer hd ?_ fun _ => ⟨hc, hirq.mpr hq⟩
    have hbound : s.rxbuf.length ≤ s.cfg.maxBufferBits := hs.bufferBounded
    split
    · rwa [List.length_append, List.length_singleton]
    · exact hbound
  | clkRiseIdle => exact h.setLevel hd (by simp)
  | clkFall => exact h.setLevel hd (by simp)
  | csFallEmpty | csFallUnanswered => exact h.emptyBuffer hd false
  | csFallReply =>
    rw [sentinelFrame_eq]
    exact (h.emptyBuffer hd false).acquire hd rfl (by decide) nofun
  | csFallResend hq hc hm hv hp hl hf => exact (h.emptyBuffer hd false).acquire hd rfl hf nofun
  | csFallDeliver hq hc hm hv hp =>
    exact ((h.emptyBuffer hd false).retain hd (frameDecode_payload_fits hm) hp).emit _
  | pollFree hp hc hf =>
    obtain ⟨-, hv, -⟩ := polling_iff.mp hp
    exact h.acquire hd (h.rxbuf_of_csIn hd hc) hf fun _ => ⟨hv, rfl⟩
  | pollTimeout hp =>
    obtain ⟨hr, -, -⟩ := polling_iff.mp hp
    exact (h.emit _).clearRequest hd hr
  | pollBusy hp hc hn =>
    obtain ⟨hr, -, -⟩ := polling_iff.mp hp
    exact h.request hd (by simp [hr]) (fun _ => hn) h.requestFits
  | csAssert hr hp =>
    rw [hp] at hphase
    obtain ⟨hi, -, hclk⟩ := hphase
    obtain ⟨hmin, -⟩ := hs.frameInFlight hr
    exact h.microStep hd hr (by simp) (by omega) ⟨by simp only; omega, rfl, hclk⟩
  | data hr hp hlt =>
    rw [hp] at hphase
    obtain ⟨-, hcs, hclk⟩ := hphase
    exact h.microStep hd hr (by simp) hlt.le ⟨List.getElem?_eq_getElem hlt, hcs, hclk⟩
  | clkHigh hr hp =>
    rw [hp] at hphase
    obtain ⟨hbit, hcs, -⟩ := hphase
    obtain ⟨-, -, -, hn⟩ := hs.frameInFlight hr
    exact h.microStep hd hr (by simp) hn ⟨hbit, hcs, rfl⟩
  | clkLow hr hp => exact h.clkLow hd hr hp
  | csDeassert hr hp =>
    rw [hp] at hphase
    obtain ⟨hi, -, hclk⟩ := hphase
    exact h.microStep hd hr (by simp) hi.le ⟨hi, rfl, hclk⟩
  | releaseHost hr hp =>
    have hend := (h.releaseBus hd hr hp).finishHostSend hd rfl
    rwa [finishHostSend_eq] at hend
  | releaseInternal hr hp => exact h.releaseBus hd hr hp

end Initialised

/-- Before `HOST_INIT` only `HOST_INIT` itself and the calls of codec functions complete (R181). -/
theorem stepInput_next_uninit_cases {e : Input} {s t : State} (hd : s.initDone = false) (h : stepInput e s = .next t) :
    (∃ c k d, e = .hostInit c k d ∧ t = s.initialise c k d) ∨ (∃ w r, e = .call w ∧ t = { s with fnResult := r }) := by
  cases e with
  | call w =>
    obtain ⟨r, hr⟩ := stepInput_call h
    exact .inr ⟨w, r, rfl, hr⟩
  | hostInit c k d =>
    obtain ⟨-, ht⟩ := stepInput_hostInit_next h
    exact .inl ⟨c, k, d, rfl, ht⟩
  | hostSend | pin | tick =>
    obtain ⟨_, _, _, he⟩ := stepInput_next_uninit hd (by simp) h
    cases he

/-- Every step keeps the invariant. -/
theorem stepInput_inv {e : Input} {s t : State} (hinv : s.Inv) (h : stepInput e s = .next t) : t.Inv := by
  cases hd : s.initDone with
  | true => exact ((stepInput_iff_effect hd).mp h).inv hinv hd
  | false =>
    rcases stepInput_next_uninit_cases hd h with ⟨c, k, d, -, rfl⟩ | ⟨w, r, -, rfl⟩
    · exact .initialise hinv.cfgValid hinv.lastFits hinv.requestFits c k d
    · exact hinv.ports s.clkIn s.dataIn s.inputs s.events r

/-- Settles O51: a machine step is the step of an input on the rest of the schedule, or none. -/
theorem stepKeepsInvariant : Obligations.StepKeepsInvariant := by
  intro s t hinv h
  rcases step_next h with ⟨e, -, he⟩ | ⟨-, rfl⟩
  · exact stepInput_inv hinv.popInput he
  · exact hinv

/-- No step of an initialised framer clears `INIT_DONE` (R182). -/
theorem Effect.initDone {s : State} {e : Input} {t : State} (hd : s.initDone = true) (h : Effect s e t) :
    t.initDone = true := by
  cases h <;> simp [hd]

/-- A reachable state is initialised and meets the invariant. -/
theorem Reachable.initialised_inv {s : State} (h : Reachable s) : s.initDone = true ∧ s.Inv := by
  induction h with
  | init cfg uninit last request run =>
    obtain ⟨-, rfl⟩ := stepInput_hostInit_next run
    exact ⟨rfl, .initialise cfg last request _ _ _⟩
  | step before run ih =>
    obtain ⟨hd, hinv⟩ := ih
    exact ⟨((stepInput_iff_effect hd).mp run).initDone hd, stepInput_inv hinv run⟩

/-- Settles O52: `HOST_INIT` establishes the invariant and every step keeps it. -/
theorem reachableStatesMeetSpecInvariants : Obligations.ReachableStatesMeetSpecInvariants := by
  intro s h
  obtain ⟨hd, hinv⟩ := h.initialised_inv
  exact hinv.spec hd

/-- Settles O50: the reset state is what `HOST_INIT` makes of empty payload registers. -/
theorem invariantHoldsAtReset : Obligations.InvariantHoldsAtReset := by
  have hcfg : State.reset.cfg.Valid := by
    simp [State.reset, State.resetWith, Config.reset, Config.Valid]
  exact State.Inv.initialise (s := State.reset) hcfg (by decide) (by decide) false false false

end Sys2Proof.Machine
end

section
/-! PROOFS. What a step leaves: initialisation, the request and its one result, the retained payload, the parameters
(R24, R31, R100, R151, R182). -/

namespace Sys2Proof.Machine

/-- No step resets `LAST_VALID` (R182). -/
theorem Effect.lastValid {s : State} {e : Input} {t : State} (h : Effect s e t) (hl : s.lastValid = true) :
    t.lastValid = true := by
  cases h <;> simp [hl]

/-- A waiting request ends in the poll at the bound or in the release of a host send, each with its result, and else
keeps its payload (R100, R101, R108). -/
theorem Effect.request {s : State} {e : Input} {t : State} (h : Effect s e t) (hv : s.hostReq.valid = true) :
    (t.hostReq = s.hostReq ∧ ∀ r, t.events ≠ s.events ++ [.sendResult r]) ∨
      (t.hostReq.valid = false ∧ t.events = s.events ++ [.sendResult .busBusyTimeout] ∧ e = .tick ∧
        s.role = .receiving ∧ s.csIn = true ∧ s.cfg.busFreeTimeoutPolls ≤ s.hostPolls + 1) ∨
      (t.hostReq.valid = false ∧ t.events = s.events ++ [.sendResult .ok] ∧ e = .tick ∧
        s.role = .sending ∧ s.txph = .release ∧ s.txsrc = .host) := by
  cases h with
  | hostSend hv' | hostSendTooLong hv' => cases hv.symm.trans hv'
  | pollTimeout hp hc hn =>
    obtain ⟨hr, -, -⟩ := polling_iff.mp hp
    exact .inr (.inl ⟨rfl, rfl, rfl, hr, hc, hn⟩)
  | releaseHost hr hp hs => exact .inr (.inr ⟨rfl, rfl, rfl, hr, hp, hs⟩)
  | _ => exact .inl (by simp)

/-- Settles O8, by what each step of an initialised framer leaves of the three registers. -/
theorem nothingUndoesInitialisation : Obligations.NothingUndoesInitialisation := by
  refine fun s hd => ⟨stepInput_hostInit_initialised hd, fun e t h => ?_⟩
  have he := (stepInput_iff_effect hd).mp h
  refine ⟨he.initDone hd, he.lastValid, fun hv hend => ?_⟩
  rcases he.request hv with ⟨hreq, -⟩ | ⟨-, -, rfl, hpoll⟩ | ⟨-, -, rfl, hrel⟩
  · rw [hreq, hv] at hend
    cases hend
  · exact ⟨rfl, .inl hpoll⟩
  · exact ⟨rfl, .inr hrel⟩

/-- Settles O9, by the two outcomes of `HOST_SEND` and the two ways a request ends. -/
theorem hostSendLatchesOrRejects : Obligations.HostSendLatchesOrRejects := by
  refine ⟨fun s p hd hv => ⟨fun hf => ?_, fun hlong => ?_⟩, fun s p hd hv => ?_, fun s e t _ hd hv h => ?_⟩
  · rw [← stepInput_of_selected (selected_hostSend p s)]
    exact stepInput_hostSend_latches hd hv hf
  · rw [← stepInput_of_selected (selected_hostSend p s)]
    exact stepInput_hostSend_too_long hd hv hlong
  · simp [exec, execHostSend, whenEnabled, hd, hv]
  · rcases ((stepInput_iff_effect hd).mp h).request hv with ⟨hreq, hev⟩ | ⟨hend, hev, -⟩ | ⟨hend, hev, -⟩
    · simp [hreq, hv, hev]
    · simp [hend, hev]
    · simp [hend, hev]

/-- Settles O42: only the delivery and the release of a host send write `LAST`. -/
theorem lastIsWrittenOnlyByDeliveryAndRelease : Obligations.LastIsWrittenOnlyByDeliveryAndRelease := by
  intro s e t hd h hne
  cases (stepInput_iff_effect hd).mp h with
  | csFallDeliver => exact .inl ⟨rfl, rfl, rfl⟩
  | releaseHost hr hp hs =>
    cases hk : s.retains with
    | false => simp [hk] at hne
    | true =>
      obtain ⟨hret, hsent⟩ := retains_iff.mp hk
      exact .inr ⟨rfl, hp, hs, hret, rfl, hsent, rfl⟩
  | _ => simp at hne

/-- Settles O54, by the outcomes of a step before and after `HOST_INIT`. -/
theorem parametersNeverChange : Obligations.ParametersNeverChange := by
  intro s e t h
  cases hd : s.initDone with
  | true => cases (stepInput_iff_effect hd).mp h <;> simp
  | false => rcases stepInput_next_uninit_cases hd h with ⟨c, k, d, -, rfl⟩ | ⟨w, r, -, rfl⟩ <;> simp

/-- Settles O7: the writes of `HOST_INIT` are the reset values. -/
theorem hostInitGivesResetState : Obligations.HostInitGivesResetState := by
  refine fun s c k d => ⟨fun hd => ?_, fun hd => if_pos hd⟩
  simp only [exec, execHostInit, hd]
  rfl

/-- Settles O29: such a step tracks its level, clears the buffer or captures a bit. -/
theorem edgeHandlersDoNotDrive : Obligations.EdgeHandlersDoNotDrive := by
  intro s l v t h hfall
  have hd : s.initDone = true := initDone_of_stepInput_next (by simp) (by simp) h
  rcases stepInput_pin_next hd hfall h with rfl | ⟨-, -, -, -, rfl⟩ | ⟨-, -, -, -, -, rfl⟩ <;> simp

/-- A step that leaves only other levels leaves everything but the levels. -/
theorem State.setLevel_levels (s : State) (l : Line) (v : Bit) :
    s.setLevel l v =
      { s with
        csIn := (s.setLevel l v).csIn, clkIn := (s.setLevel l v).clkIn, dataIn := (s.setLevel l v).dataIn } := by
  cases l <;> rfl

/-- Settles O28, by induction on the run: each masked step writes one level. -/
theorem maskedEdgesLeaveOnlyLevels : Obligations.MaskedEdgesLeaveOnlyLevels := by
  intro s es hd hm hpins
  induction es generalizing s with
  | nil => exact ⟨s, rfl, rfl⟩
  | cons e es ih =>
    obtain ⟨l, v, rfl⟩ := hpins e (by simp)
    obtain ⟨t, ht, hrest⟩ := ih (s.setLevel l v) (by simp [hd]) (by simp [hm]) fun e he => hpins e (by simp [he])
    refine ⟨t, (runInputs_cons_next (stepInput_pin_masked hd hm l v) es).trans ht, ?_⟩
    rw [State.setLevel_levels s l v] at hrest
    exact hrest

end Sys2Proof.Machine
end

section
/-! PROOFS. No error halts the machine (R150, R110), and which operation a machine step runs (R20, R21). -/

namespace Sys2Proof.Machine

theorem stepInput_fault {e : Input} {s : State} {f : Fault} (h : stepInput e s = .fault f) :
    ∃ i, selected e s = .ok i ∧ exec i s = .fault f := by
  unfold stepInput at h
  split at h
  next i hi => exact ⟨i, hi, h⟩
  · cases h

/-- Before `HOST_INIT` nothing faults. -/
theorem initDone_of_exec_fault {i : Instr} {s : State} {f : Fault} (h : exec i s = .fault f) : s.initDone = true := by
  cases i with
  | checksum | encode | decode => cases h
  | hostInit =>
    simp only [exec, execHostInit] at h
    split at h <;> cases h
  | tickNone =>
    simp only [exec, execTickNone] at h
    split at h <;> cases h
  | _ =>
    obtain ⟨hd, -⟩ := whenEnabled_fault.mp h
    exact hd

theorem stepInput_tick_completes {s : State} (hinv : s.Inv) (hd : s.initDone = true)
    (hw : s.role = .sending ∨ s.hostReq.valid = true) : ∃ t, stepInput .tick s = .next t := by
  cases hr : s.role with
  | sending => exact stepInput_tick_sending hinv hd hr
  | receiving => exact stepInput_tick_waiting hinv hd hr (hw.resolve_left (by simp [hr]))

theorem stepInput_hostSend_completes {s : State} {p : Payload} (hd : s.initDone = true)
    (hv : s.hostReq.valid = false) : ∃ t, stepInput (.hostSend p) s = .next t := by
  rcases Nat.lt_or_ge maxPayload p.length with hlong | hf
  · exact ⟨_, stepInput_hostSend_too_long hd hv hlong⟩
  · exact ⟨_, stepInput_hostSend_latches hd hv hf⟩

theorem stepInput_pin_completes {s : State} (hinv : s.Inv) (hd : s.initDone = true) (l : Line) (v : Bit) :
    ∃ t, stepInput (.pin l v) s = .next t := by
  obtain ⟨t, ht, -⟩ := stepInput_pin_tracks hd hinv.lastFits l v
  exact ⟨t, ht⟩

/-- With the invariant every step completes or is refused, never faults. -/
theorem stepInput_ne_fault {e : Input} {s : State} (hinv : s.Inv) (f : Fault) : stepInput e s ≠ .fault f := by
  intro h
  obtain ⟨i, hi, hx⟩ := stepInput_fault h
  have hd := initDone_of_exec_fault hx
  suffices ∃ t, stepInput e s = .next t by
    obtain ⟨t, ht⟩ := this
    cases h.symm.trans ht
  cases e with
  | hostInit c k d =>
    rw [stepInput_hostInit_initialised hd] at h
    cases h
  | hostSend p =>
    cases hi.symm.trans (selected_hostSend p s)
    obtain ⟨-, hv, -⟩ := whenEnabled_fault.mp hx
    exact stepInput_hostSend_completes hd (by simpa using hv)
  | pin l v => exact stepInput_pin_completes hinv hd l v
  | call w => rcases selected_call hi with ⟨p, rfl⟩ | ⟨p, rfl⟩ | ⟨b, rfl⟩ <;> cases hx
  | tick =>
    refine stepInput_tick_completes hinv hd ?_
    by_contra hw
    push Not at hw
    obtain ⟨hr, hv⟩ := hw
    obtain ⟨-, -, hidle⟩ := (hinv.spec hd).roleAgrees
    replace hr : s.role = .receiving := by cases h : s.role <;> simp_all
    cases hi.symm.trans (selected_tick_receiving hr (hidle.mp hr))
    rw [if_neg hv, exec_tickNone hd] at hx
    cases hx

/-- Settles O53: with the invariant nothing faults, and where a step is enabled it completes. -/
theorem noErrorStopsTheMachine : Obligations.NoErrorStopsTheMachine := by
  refine fun s e hinv => ⟨stepInput_ne_fault hinv, fun hd => ⟨?_, ?_, ?_⟩, fun hin => ?_⟩
  · rintro l v rfl
    exact stepInput_pin_completes hinv hd l v
  · rintro rfl hw
    exact stepInput_tick_completes hinv hd hw
  · rintro p rfl hv
    exact stepInput_hostSend_completes hd hv
  · cases hen : s.tickEnabled with
    | false => exact ⟨s, step_idle (nextInput_eq_none.mpr ⟨hin, hen⟩)⟩
    | true =>
      have hnext : s.nextInput = some .tick := by simp [State.nextInput, hin, hen]
      rw [step_of_nextInput hnext]
      simp only [State.tickEnabled, Bool.and_eq_true, Bool.or_eq_true, beq_iff_eq] at hen
      obtain ⟨hd, hw⟩ := hen
      exact stepInput_tick_completes hinv.popInput hd hw

/-- An input of the alphabet selects what its word decodes to. -/
theorem selected_of_decode {e : Input} {s : State} {i : Instr} (hcall : ∀ w, e ≠ .call w)
    (h : decode (inputWord e s) = .ok i) : selected e s = .ok i := by
  cases e with
  | call w => exact absurd rfl (hcall w)
  | _ => exact h

/-- Settles O46: the next input, and the operation that it selects. -/
theorem stepRunsTheSelectedOperation : Obligations.StepRunsTheSelectedOperation := by
  refine ⟨fun s => ⟨rfl, fun e es hin => ?_, fun hin hd => ⟨fun hw => ?_, fun hr hv => ?_⟩, fun hin hd => ?_⟩,
    fun s e i hn hcall hi => ?_, fun s w i hn hi hc => ?_, fun s e r hn hr => ?_, fun s hn => step_idle hn⟩
  · simp [State.nextInput, hin]
  · have hen : s.tickEnabled = true := by simpa [State.tickEnabled, hd] using hw
    simp [State.nextInput, hin, hen]
  · exact nextInput_eq_none.mpr ⟨hin, tickEnabled_eq_false hr hv⟩
  · exact nextInput_eq_none.mpr ⟨hin, by simp [State.tickEnabled, hd]⟩
  · rw [step_of_nextInput hn, stepInput_of_selected (selected_of_decode hcall hi)]
  · have hsel : selected (.call w) s.popInput = .ok i := by simp [selected, inputWord, hi, hc]
    rw [step_of_nextInput hn, stepInput_of_selected hsel]
  · rw [step_of_nextInput hn, stepInput, hr]

end Sys2Proof.Machine
end

section
/-! PROOFS. The registers the spec leaves unspecified are never read (U2): with such a register changed each outcome
of a step is an outcome of the same step, which carries the changed value along or overwrites it. -/

namespace Sys2Proof.Machine

/-- `LAST` is not read while `LAST_VALID = 0`. -/
theorem Effect.withLast {s : State} {e : Input} {t : State} (h : Effect s e t) (hl : s.lastValid = false)
    (q : Payload) :
    (t.lastValid = false → Effect { s with last := q } e { t with last := q }) ∧
      (t.lastValid = true → Effect { s with last := q } e t) := by
  have hno {P : Prop} (hl' : s.lastValid = true) : P := by cases hl.symm.trans hl'
  cases h with
  | hostSend hv hf => exact ⟨fun _ => .hostSend hv hf, hno⟩
  | hostSendTooLong hv hlong => exact ⟨fun _ => .hostSendTooLong hv hlong, hno⟩
  | call hr => exact ⟨fun _ => .call hr, hno⟩
  | @quiet l v h => cases l <;> exact ⟨fun _ => .quiet h, hno⟩
  | csRise hq hc => exact ⟨fun _ => .csRise hq hc, hno⟩
  | clkRise hq hk hc => exact ⟨fun _ => .clkRise hq hk hc, hno⟩
  | clkRiseIdle hq hk hc => exact ⟨fun _ => .clkRiseIdle hq hk hc, hno⟩
  | clkFall hq hk => exact ⟨fun _ => .clkFall hq hk, hno⟩
  | csFallEmpty hq hc hb => exact ⟨fun _ => .csFallEmpty hq hc hb, hno⟩
  | csFallReply hq hc hbad => exact ⟨fun _ => .csFallReply hq hc hbad, hno⟩
  | csFallResend hq hc hm hv hp hl' => exact hno hl'
  | csFallUnanswered hq hc hm hv hp => exact ⟨fun _ => .csFallUnanswered hq hc hm hv hp hl, hno⟩
  | csFallDeliver hq hc hm hv hp => exact ⟨nofun, fun _ => .csFallDeliver hq hc hm hv hp⟩
  | pollFree hp hc hf => exact ⟨fun _ => .pollFree hp hc hf, hno⟩
  | pollTimeout hp hc hn => exact ⟨fun _ => .pollTimeout hp hc hn, hno⟩
  | pollBusy hp hc hn => exact ⟨fun _ => .pollBusy hp hc hn, hno⟩
  | csAssert hr hp => exact ⟨fun _ => .csAssert hr hp, hno⟩
  | data hr hp hlt => exact ⟨fun _ => .data (s := { s with last := q }) hr hp hlt, hno⟩
  | clkHigh hr hp => exact ⟨fun _ => .clkHigh hr hp, hno⟩
  | clkLow hr hp => exact ⟨fun _ => .clkLow hr hp, hno⟩
  | csDeassert hr hp => exact ⟨fun _ => .csDeassert hr hp, hno⟩
  | releaseHost hr hp hs =>
    have hend := Effect.releaseHost (s := { s with last := q }) hr hp hs
    cases hk : s.retains <;> simp only [State.retains] at hk hend ⊢ <;> simp only [hk] at hend ⊢
    · exact ⟨fun _ => hend, hno⟩
    · exact ⟨nofun, fun _ => hend⟩
  | releaseInternal hr hp hs => exact ⟨fun _ => .releaseInternal hr hp hs, hno⟩

/-- `HOST_REQ.p` is not read while no request is valid. -/
theorem Effect.withRequest {s : State} {e : Input} {t : State} (h : Effect s e t) (hsource : s.sourceAgrees)
    (hv : s.hostReq.valid = false) (q : Payload) :
    (t.hostReq.valid = false → Effect { s with hostReq := ⟨false, q⟩ } e { t with hostReq := ⟨false, q⟩ }) ∧
      (t.hostReq.valid = true → Effect { s with hostReq := ⟨false, q⟩ } e t) := by
  have hno {P : Prop} (hv' : s.hostReq.valid = true) : P := by cases hv.symm.trans hv'
  cases h with
  | hostSend _ hf => exact ⟨nofun, fun _ => .hostSend (s := { s with hostReq := ⟨false, q⟩ }) rfl hf⟩
  | hostSendTooLong _ hlong => exact ⟨fun _ => .hostSendTooLong rfl hlong, hno⟩
  | call hr => exact ⟨fun _ => .call hr, hno⟩
  | @quiet l v h => cases l <;> exact ⟨fun _ => .quiet h, hno⟩
  | csRise hq hc => exact ⟨fun _ => .csRise hq hc, hno⟩
  | clkRise hq hk hc => exact ⟨fun _ => .clkRise hq hk hc, hno⟩
  | clkRiseIdle hq hk hc => exact ⟨fun _ => .clkRiseIdle hq hk hc, hno⟩
  | clkFall hq hk => exact ⟨fun _ => .clkFall hq hk, hno⟩
  | csFallEmpty hq hc hb => exact ⟨fun _ => .csFallEmpty hq hc hb, hno⟩
  | csFallReply hq hc hbad => exact ⟨fun _ => .csFallReply hq hc hbad, hno⟩
  | csFallResend hq hc hm hv hp hl hf => exact ⟨fun _ => .csFallResend hq hc hm hv hp hl hf, hno⟩
  | csFallUnanswered hq hc hm hv hp hl => exact ⟨fun _ => .csFallUnanswered hq hc hm hv hp hl, hno⟩
  | csFallDeliver hq hc hm hv hp => exact ⟨fun _ => .csFallDeliver hq hc hm hv hp, hno⟩
  | pollFree hp | pollTimeout hp | pollBusy hp =>
    obtain ⟨-, hv', -⟩ := polling_iff.mp hp
    exact hno hv'
  | csAssert hr hp => exact ⟨fun _ => .csAssert hr hp, hno⟩
  | data hr hp hlt => exact ⟨fun _ => .data (s := { s with hostReq := ⟨false, q⟩ }) hr hp hlt, hno⟩
  | clkHigh hr hp => exact ⟨fun _ => .clkHigh hr hp, hno⟩
  | clkLow hr hp => exact ⟨fun _ => .clkLow hr hp, hno⟩
  | csDeassert hr hp => exact ⟨fun _ => .csDeassert hr hp, hno⟩
  | releaseHost hr hp hs =>
    obtain ⟨_, -, -, hreq⟩ := hsource hr
    obtain ⟨hv', -⟩ := hreq hs
    exact hno hv'
  | releaseInternal hr hp hs => exact ⟨fun _ => .releaseInternal hr hp hs, hno⟩

/-- `TXSEQ`, `TXIDX` and `TXSRC` are not read while the sequencer is idle. -/
theorem Effect.withSequence {s : State} {e : Input} {t : State} (h : Effect s e t) (hr : s.role = .receiving)
    (hi : s.txph = .idle) (q : BitSeq) (n : Nat) (c : Source) :
    (t.txph = .idle → Effect { s with txseq := q, txidx := n, txsrc := c } e
        { t with txseq := q, txidx := n, txsrc := c }) ∧
      (t.txph ≠ .idle → Effect { s with txseq := q, txidx := n, txsrc := c } e t) := by
  have hno {P : Prop} (hi' : s.txph ≠ .idle) : P := absurd hi hi'
  cases h with
  | hostSend hv hf => exact ⟨fun _ => .hostSend hv hf, hno⟩
  | hostSendTooLong hv hlong => exact ⟨fun _ => .hostSendTooLong hv hlong, hno⟩
  | call hr => exact ⟨fun _ => .call hr, hno⟩
  | @quiet l v h => cases l <;> exact ⟨fun _ => .quiet h, hno⟩
  | csRise hq hc => exact ⟨fun _ => .csRise hq hc, hno⟩
  | clkRise hq hk hc => exact ⟨fun _ => .clkRise hq hk hc, hno⟩
  | clkRiseIdle hq hk hc => exact ⟨fun _ => .clkRiseIdle hq hk hc, hno⟩
  | clkFall hq hk => exact ⟨fun _ => .clkFall hq hk, hno⟩
  | csFallEmpty hq hc hb => exact ⟨fun _ => .csFallEmpty hq hc hb, hno⟩
  | csFallReply hq hc hbad => exact ⟨nofun, fun _ => .csFallReply hq hc hbad⟩
  | csFallResend hq hc hm hv hp hl hf => exact ⟨nofun, fun _ => .csFallResend hq hc hm hv hp hl hf⟩
  | csFallUnanswered hq hc hm hv hp hl => exact ⟨fun _ => .csFallUnanswered hq hc hm hv hp hl, hno⟩
  | csFallDeliver hq hc hm hv hp => exact ⟨fun _ => .csFallDeliver hq hc hm hv hp, hno⟩
  | pollFree hp hc hf => exact ⟨nofun, fun _ => .pollFree hp hc hf⟩
  | pollTimeout hp hc hn => exact ⟨fun _ => .pollTimeout hp hc hn, hno⟩
  | pollBusy hp hc hn => exact ⟨fun _ => .pollBusy hp hc hn, hno⟩
  | csAssert hr' | data hr' | clkHigh hr' | clkLow hr' | csDeassert hr' | releaseHost hr' | releaseInternal hr' =>
    cases hr.symm.trans hr'

/-- Settles O43, by what each outcome of a step reads. -/
theorem unspecifiedRegistersAreNeverRead : Obligations.UnspecifiedRegistersAreNeverRead := by
  refine ⟨fun s e t q hd hl h => ?_, fun s e t q hinv hd hv h => ?_, fun s e t q n c hd hr hi h => ?_⟩
  · obtain ⟨hkept, hwritten⟩ := ((stepInput_iff_effect hd).mp h).withLast hl q
    refine Effect.stepInput_eq (s := { s with last := q }) hd ?_
    split
    next hset => exact hwritten hset
    next hclear => exact hkept (Bool.eq_false_of_not_eq_true hclear)
  · obtain ⟨hkept, hwritten⟩ := ((stepInput_iff_effect hd).mp h).withRequest (hinv.source hd) hv q
    refine Effect.stepInput_eq (s := { s with hostReq := ⟨false, q⟩ }) hd ?_
    split
    next hset => exact hwritten hset
    next hclear => exact hkept (Bool.eq_false_of_not_eq_true hclear)
  · obtain ⟨hkept, hwritten⟩ := ((stepInput_iff_effect hd).mp h).withSequence hr hi q n c
    refine Effect.stepInput_eq (s := { s with txseq := q, txidx := n, txsrc := c }) hd ?_
    split
    next hidle => exact hkept hidle
    next hbusy => exact hwritten hbusy

end Sys2Proof.Machine
end

section
/-! PROOFS. The output waveform of a frame, and the named waits of its micro-steps (R111, R201). -/

namespace Sys2Proof.Machine

theorem TickRun.runs_of_length {is : List Instr} {s t : State} (h : TickRun is s t) {n : Nat} (hn : is.length = n) :
    runInputs (List.replicate n .tick) s = .next t :=
  hn ▸ h.runs

theorem length_bitOps (k : Nat) : (bitOps k).length = 3 * k := by
  simp [mul_comm]

theorem drive_of_oe {s : State} (hd : s.initDone = true) (ho : s.oe = true) (l : Line) :
    s.drive l = some (s.outLevel l) := by
  simp [State.drive, hd, ho]

theorem drive_of_released {s : State} (ho : s.oe = false) (l : Line) : s.drive l = none := by
  simp [State.drive, ho]

/-- Settles O55, by the cases of the two drivers. -/
theorem lineLevelOfTwoDrivers : Obligations.LineLevelOfTwoDrivers := by
  refine ⟨fun free => ⟨rfl, fun v => ⟨rfl, rfl, by simp [lineLevel], by cases v <;> rfl⟩⟩,
    fun s l => ⟨?_, fun hd ho => ?_⟩⟩
  · cases hd : s.initDone <;> cases ho : s.oe <;> simp [State.drive, hd, ho]
  · exact ⟨drive_of_oe hd ho .cs, drive_of_oe hd ho .clk, drive_of_oe hd ho .data⟩

section Frame

variable {s : State} (hd : s.initDone = true) (hr : s.role = .sending) (hp : s.txph = .csAssert) (hi : s.txidx = 0)
  (hne : s.txseq ≠ [])
include hd hr hp hi hne

/-- The ticks that put the first `k` bits out. -/
theorem tickRun_to_atBit {k : Nat} (hk : k ≤ s.txseq.length) : TickRun ([.txCsAssert] ++ bitOps k) s (s.atBit k) :=
  (tickRun_atBit_zero hd hr hp hi hne).append (tickRun_atBit hd hr hk)

theorem runInputs_to_atBit {k : Nat} (hk : k ≤ s.txseq.length) :
    runInputs (List.replicate (3 * k + 1) .tick) s = .next (s.atBit k) :=
  (tickRun_to_atBit hd hr hp hi hne hk).runs_of_length (by rw [List.length_append, length_bitOps]; simp; omega)

/-- The tick that puts bit `i` on Data, with Clock still low. -/
theorem runInputs_to_data {i : Nat} (h : i < s.txseq.length) :
    runInputs (List.replicate (3 * i + 2) .tick) s =
      .next { s.atBit i with dataOut := s.txseq[i], txph := .clkHigh } := by
  rw [List.replicate_succ', runInputs_append (runInputs_to_atBit hd hr hp hi hne h.le)]
  exact (tickRun_txData (s := s.atBit i) hd hr (State.atBit_txph_of_lt h) h).runs

/-- The tick that raises Clock on bit `i`. -/
theorem runInputs_to_clkHigh {i : Nat} (h : i < s.txseq.length) :
    runInputs (List.replicate (3 * i + 3) .tick) s =
      .next { s.atBit i with dataOut := s.txseq[i], clkOut := true, txph := .clkLow } := by
  rw [List.replicate_succ', runInputs_append (runInputs_to_data hd hr hp hi hne h)]
  exact (tickRun_txClkHigh (s := { s.atBit i with dataOut := s.txseq[i], txph := .clkHigh }) hd hr rfl).runs

/-- The tick that deasserts CS after the last bit. -/
theorem runInputs_to_atRelease : runInputs (List.replicate (3 * s.txseq.length + 2) .tick) s = .next s.atRelease :=
  (tickRun_atRelease hd hr hp hi hne).runs_of_length (by simp [mul_comm])

end Frame

/-- Between two bits Clock is low. -/
theorem State.atBit_clkOut {s : State} (h : s.clkOut = false) (i : Nat) : (s.atBit i).clkOut = false := by
  simp [State.atBit, h]

/-- Data after `i + 1` bits is bit `i`. -/
theorem State.atBit_succ_dataOut (s : State) {i : Nat} (h : i < s.txseq.length) :
    (s.atBit (i + 1)).dataOut = s.txseq[i] := by
  rw [← State.atBit_succ s h]

/-- Settles O19: the states after the ticks of a frame, and what each drives. -/
theorem outputWaveform : Obligations.OutputWaveform := by
  intro s hd hr ho hp hi hne hclk hdata hcs m driven
  have hdrives {n : Nat} {t : State} (ht : runInputs (List.replicate n .tick) s = .next t)
      (htd : t.initDone = s.initDone) (hto : t.oe = s.oe) : driven n t.clkOut t.dataOut t.csOut :=
    have hd' := htd.trans hd
    have ho' := hto.trans ho
    ⟨t, ht, drive_of_oe hd' ho' .clk, drive_of_oe hd' ho' .data, drive_of_oe hd' ho' .cs⟩
  have hlow (i : Nat) : (s.atBit i).clkOut = false := State.atBit_clkOut hclk i
  refine ⟨?_, ?_, fun i h => ⟨?_, ?_, ?_⟩, fun b hb => ?_, ?_⟩
  · have h0 := hdrives (n := 0) rfl rfl rfl
    rwa [hclk, hdata, hcs] at h0
  · have h1 := hdrives (runInputs_to_atBit hd hr hp hi hne (Nat.zero_le _)) rfl rfl
    rwa [hlow 0, show (s.atBit 0).dataOut = false by simp [State.atBit, hdata]] at h1
  · have h2 := hdrives (runInputs_to_data hd hr hp hi hne h) rfl rfl
    rwa [show State.clkOut { s.atBit i with dataOut := s.txseq[i], txph := .clkHigh } = false from hlow i] at h2
  · exact hdrives (runInputs_to_clkHigh hd hr hp hi hne h) rfl rfl
  · have h4 := hdrives (runInputs_to_atBit hd hr hp hi hne h) rfl rfl
    rwa [hlow, State.atBit_succ_dataOut s h] at h4
  · have hend := hdrives (runInputs_to_atRelease hd hr hp hi hne) rfl rfl
    rwa [show s.atRelease.clkOut = false from hlow _,
      show s.atRelease.dataOut = b by simp [State.atRelease, State.atBit, hb]] at hend
  · obtain ⟨t, hrun, -, -, hrel, -⟩ := tickRun_frame hd hr hp hi hne
    exact ⟨t, hrun.runs_of_length (length_frameOps m), drive_of_released hrel⟩

theorem dwellOf_append (c : Config) (is js : List Instr) : dwellOf c (is ++ js) = dwellOf c is + dwellOf c js := by
  simp [dwellOf]

/-- Each bit keeps Clock high and low for one `BIT_PERIOD` (R200). -/
theorem dwellOf_bitOps (c : Config) (k : Nat) : dwellOf c (bitOps k) = 2 * c.bitPeriod * k := by
  induction k with
  | zero => rfl
  | succ k ih =>
    have hbit : dwellOf c [.txData, .txClkHigh, .txClkLow] = 2 * c.bitPeriod := by
      simp [dwellOf, List.filterMap_cons, dwellAfter, Nat.two_mul]
    rw [bitOps, List.replicate_succ', List.flatten_concat, dwellOf_append, ih, hbit, Nat.mul_succ]

/-- The operations of a frame: those before CS falls, and the two from its fall on. -/
theorem frameOps_eq (m : Nat) : frameOps m = ([.txCsAssert] ++ bitOps m) ++ [.txCsDeassert, .txRelease] := rfl

theorem ne_txCsDeassert_of_mem {m : Nat} {i : Instr} (h : i ∈ [Instr.txCsAssert] ++ bitOps m) :
    decide (i ≠ .txCsDeassert) = true := by
  simp only [List.mem_append, List.mem_singleton, List.mem_flatten, List.mem_replicate] at h
  rcases h with rfl | ⟨l, ⟨-, rfl⟩, h⟩
  · rfl
  · revert i
    decide

/-- Settles O58: before the fall of CS the waits are those of its rise and of the bits, after it there are none. -/
theorem frameDwellIsCsActiveTime : Obligations.FrameDwellIsCsActiveTime := by
  intro c L
  rw [frameOps_eq, List.takeWhile_append_of_pos fun i => ne_txCsDeassert_of_mem,
    List.dropWhile_append_of_pos fun i => ne_txCsDeassert_of_mem]
  refine ⟨?_, by simp [dwellAfter]⟩
  have hrise : dwellOf c [.txCsAssert] = c.csSettle := by simp [dwellOf, dwellAfter]
  rw [dwellOf_append, dwellOf_append, hrise, dwellOf_bitOps]
  rfl

end Sys2Proof.Machine
end

section
/-! PROOFS. A peer's transmission as the sampler captures it, and the dispatch on what was captured
(R122, R123, R128). -/

namespace Sys2Proof.Machine

/-- The framer inside a peer's transmission, Clock low, with the bits `b` captured and Data at `d`. -/
def State.capturing (s : State) (d : Bit) (b : BitSeq) : State :=
  { s with csIn := true, clkIn := false, dataIn := d, rxbuf := b }

/-- The same with Clock high, the bit on Data captured. -/
def State.sampled (s : State) (d : Bit) (b : BitSeq) : State := { s.capturing d b with clkIn := true }

/-- The framer after a peer's transmission, its buffer handed over. -/
def State.heard (s : State) (q : BitSeq) : State :=
  { s with csIn := false, clkIn := false, dataIn := q.getLast?.getD s.dataIn, rxbuf := [] }

/-- A bit that finds the buffer full is dropped (R51): the buffer is an initial part of what was sent. -/
theorem capture_take {b : BitSeq} {n : Nat} (h : b.length ≤ n) (v : Bit) :
    (if b.length < n then b ++ [v] else b) = (b ++ [v]).take n := by
  split
  next hroom => rw [List.take_of_length_le (by simpa using hroom)]
  next hfull => rw [List.take_append_of_le_length (by omega), List.take_of_length_le h]

/-- What was captured of a first part and then of a second is what is captured of both. -/
theorem take_take_append (n : Nat) (a b : BitSeq) : (a.take n ++ b).take n = (a ++ b).take n := by
  rw [List.take_append, List.take_append, List.take_take, Nat.min_self, List.length_take]
  congr 2
  omega

theorem runInputs_singleton (e : Input) (s : State) : runInputs [e] s = stepInput e s := by
  rw [runInputs]
  cases stepInput e s <;> rfl

/-- What a listening framer sees of the bits alone, without the CS edges. -/
def bitInputs (q : BitSeq) : List Input := q.flatMap fun b => [.pin .data b, .pin .clk true, .pin .clk false]

theorem wireInputs_eq (q : BitSeq) : wireInputs q = ([.pin .cs true] ++ bitInputs q) ++ [.pin .cs false] := rfl

section Sampling

variable {s : State} (hd : s.initDone = true)
include hd

theorem stepInput_capturing_data (d : Bit) (b : BitSeq) (v : Bit) :
    stepInput (.pin .data v) (s.capturing d b) = .next (s.capturing v b) :=
  stepInput_pin_data (s := s.capturing d b) hd v

variable (hq : s.irqEn = true)
include hq

theorem stepInput_capturing_rise {b : BitSeq} (hb : b.length ≤ s.cfg.maxBufferBits) (v : Bit) :
    stepInput (.pin .clk true) (s.capturing v b) = .next (s.sampled v ((b ++ [v]).take s.cfg.maxBufferBits)) := by
  rw [← capture_take hb v]
  exact stepInput_clkRise (s := s.capturing v b) hd hq rfl rfl

theorem stepInput_sampled_fall (v : Bit) (b : BitSeq) :
    stepInput (.pin .clk false) (s.sampled v b) = .next (s.capturing v b) :=
  stepInput_clkFall (s := s.sampled v b) hd hq rfl

/-- The three pin steps of one bit: Data is set, and its Clock pulse captures it. -/
theorem runInputs_bit {d : Bit} {b : BitSeq} (hb : b.length ≤ s.cfg.maxBufferBits) (v : Bit) :
    runInputs [.pin .data v, .pin .clk true, .pin .clk false] (s.capturing d b) =
      .next (s.capturing v ((b ++ [v]).take s.cfg.maxBufferBits)) :=
  (runInputs_cons_next (stepInput_capturing_data hd d b v) _).trans
    ((runInputs_cons_next (stepInput_capturing_rise hd hq hb v) _).trans
      (runInputs_cons_next (stepInput_sampled_fall hd hq v _) _))

/-- The bits of a transmission are captured up to the capacity. -/
theorem runInputs_bits {d : Bit} {b : BitSeq} (hb : b.length ≤ s.cfg.maxBufferBits) (q : BitSeq) :
    runInputs (bitInputs q) (s.capturing d b) =
      .next (s.capturing (q.getLast?.getD d) ((b ++ q).take s.cfg.maxBufferBits)) := by
  induction q generalizing d b with
  | nil => simp [bitInputs, List.take_of_length_le hb]
  | cons v q ih =>
    rw [bitInputs, List.flatMap_cons, runInputs_append (runInputs_bit hd hq hb v)]
    refine (ih (by simp)).trans ?_
    rw [take_take_append, List.append_assoc, List.singleton_append, List.getLast?_cons]
    rfl

end Sampling

section Listening

variable {s : State} (h : s.listening) (q : BitSeq)
include h

/-- Just before CS falls the buffer holds the first `MAX_BUFFER_BITS` bits (R128). -/
theorem runInputs_transmission :
    runInputs ([.pin .cs true] ++ bitInputs q) s =
      .next (s.capturing (q.getLast?.getD s.dataIn) (q.take s.cfg.maxBufferBits)) := by
  obtain ⟨hd, -, hq, -, hc, hk⟩ := h
  have hrise : stepInput (.pin .cs true) s = .next (s.capturing s.dataIn []) := by
    rw [stepInput_csRise hd hq hc, State.capturing, ← hk]
  exact (runInputs_cons_next hrise _).trans (runInputs_bits hd hq (Nat.zero_le _) q)

/-- A transmission ends in the dispatch on what was captured of it (R123, R132). -/
theorem runInputs_wireInputs : runInputs (wireInputs q) s = frameDone (q.take s.cfg.maxBufferBits) (s.heard q) := by
  have hrun := runInputs_transmission h q
  obtain ⟨hd, -, hq, -⟩ := h
  rw [wireInputs_eq, runInputs_append hrun, runInputs_singleton]
  exact stepInput_csFall (s := s.capturing (q.getLast?.getD s.dataIn) (q.take s.cfg.maxBufferBits)) hd hq rfl

end Listening

/-- Settles O27: the bits are captured one by one, and the last step is the CS falling edge. -/
theorem samplerCapturesTheTransmission : Obligations.SamplerCapturesTheTransmission := by
  intro s q h
  have hrun := runInputs_transmission h q
  refine ⟨_, ?_, rfl, ?_⟩
  · rwa [wireInputs_eq, List.dropLast_concat]
  · rw [wireInputs_eq, runInputs_append hrun, runInputs_singleton]
    rfl

theorem take_of_framesFit {c : Config} {p : Payload} (h : framesFit c p) :
    (frameBits p).take c.maxBufferBits = frameBits p :=
  List.take_of_length_le (by rwa [length_frameBits])

/-- A frame that fits is delivered (R135). -/
theorem runInputs_frame_delivered {s : State} {p : Payload} (h : s.listening) (hfit : framesFit s.cfg p)
    (hf : p.length ≤ maxPayload) (hp : p ≠ sentinel) :
    runInputs (wireInputs (frameBits p)) s = .next (((s.heard (frameBits p)).retain p).emit (.onMessage p)) := by
  rw [runInputs_wireInputs h, take_of_framesFit hfit]
  exact frameDone_deliver (frameDecode_frameBits hf) rfl hp _

/-- Settles O38: what fits is captured whole, decoded to the payload and delivered. -/
theorem receivedFrameIsDelivered : Obligations.ReceivedFrameIsDelivered := by
  intro s p h hfit hf hp
  have hrun := runInputs_frame_delivered h hfit hf hp
  obtain ⟨-, hr, -⟩ := h
  exact ⟨_, hrun, hr, rfl, rfl, rfl, rfl⟩

/-- Settles O41: what is captured of the frame is a proper initial part of it, hence incomplete. -/
theorem oversizeFrameIsAnsweredWithError : Obligations.OversizeFrameIsAnsweredWithError := by
  intro s p h hcfg hf hfit
  obtain ⟨hpos, -⟩ := hcfg
  have hlong : s.cfg.maxBufferBits < (frameBits p).length := by
    rw [length_frameBits]
    exact Nat.lt_of_not_le hfit
  have hne : (frameBits p).take s.cfg.maxBufferBits ≠ [] := List.ne_nil_of_length_pos (by rw [List.length_take]; omega)
  refine ⟨(s.heard (frameBits p)).acquire sentinelFrame .internal, ?_, rfl, rfl, rfl, rfl, rfl⟩
  rw [runInputs_wireInputs h]
  exact frameDone_error hne (frameDecode_take_frameBits hf hlong) _

theorem emptyFrame_eq : emptyFrame = frameBits [] := by decide

theorem frameDecode_sentinelFrame :
    frameDecode sentinelFrame =
      .ok { length := sentinel.length, payload := sentinel, checksum := checksum sentinel, valid := true } := by
  rw [sentinelFrame_eq]
  exact frameDecode_frameBits (by decide)

/-- Settles O34: the two fixed frames decode to their payloads. -/
theorem fixedFrameRowsAreTheirDispatch : Obligations.FixedFrameRowsAreTheirDispatch := by
  intro s hd ha hf
  have hempty : exec .frameEmpty s = frameDone emptyFrame s := whenEnabled_of hd ha
  have hsentinel : exec .frameSentinel s = frameDone sentinelFrame s := whenEnabled_of hd ha
  rw [hempty, hsentinel, emptyFrame_eq]
  exact ⟨frameDone_deliver (frameDecode_frameBits (Nat.zero_le _)) rfl (by decide) s,
    fun hl => frameDone_resend frameDecode_sentinelFrame rfl rfl hl hf,
    fun hl => frameDone_unanswered frameDecode_sentinelFrame rfl rfl hl⟩

end Sys2Proof.Machine
end

section
/-! PROOFS. Every tick of a frame in flight, and the host send and the internal send as whole runs (R109, R136,
R139). -/

namespace Sys2Proof.Machine

/-- `t` is `s` but for the sequencer's place in its frame and what it drives there. -/
def State.sameFrame (s t : State) : Prop :=
  t = { s with csOut := t.csOut, clkOut := t.clkOut, dataOut := t.dataOut, txidx := t.txidx, txph := t.txph }

theorem State.sameFrame.trans {s t u : State} (h : s.sameFrame t) (h' : t.sameFrame u) : s.sameFrame u := by
  rw [State.sameFrame] at h'
  rw [h] at h'
  exact h'

/-- A tick that stays in `Sending` moves the sequencer and nothing else (R109). -/
theorem Effect.sameFrame {s t : State} (h : Effect s .tick t) (hr : s.role = .sending) (ht : t.role = .sending) :
    s.sameFrame t := by
  cases h with
  | csAssert | data | clkHigh | clkLow | csDeassert => rfl
  | releaseHost | releaseInternal => cases ht
  | pollFree hp | pollTimeout hp | pollBusy hp =>
    obtain ⟨hr', -⟩ := polling_iff.mp hp
    cases hr.symm.trans hr'

theorem TickRun.sending {is : List Instr} {s t : State} (h : TickRun is s t) (ht : t.role = .sending) :
    s.role = .sending := by
  cases h with
  | nil => exact ht
  | cons sending => exact sending

/-- After each tick of a run that ends in `Sending` the same frame is in flight. -/
theorem TickRun.sameFrame {is : List Instr} {s t : State} (h : TickRun is s t) (hd : s.initDone = true)
    (ht : t.role = .sending) {n : Nat} (hn : n ≤ is.length) :
    ∃ u, runInputs (List.replicate n .tick) s = .next u ∧ u.role = .sending ∧ s.sameFrame u := by
  induction h generalizing n with
  | nil s =>
    obtain rfl : n = 0 := Nat.le_zero.mp hn
    exact ⟨s, rfl, ht, rfl⟩
  | cons sending select run rest ih =>
    cases n with
    | zero => exact ⟨_, rfl, sending, rfl⟩
    | succ n =>
      have hstep := (stepInput_of_selected select).trans run
      have heff := (stepInput_iff_effect hd).mp hstep
      obtain ⟨u, hu, hur, hsame⟩ := ih (heff.initDone hd) ht (Nat.le_of_succ_le_succ hn)
      exact ⟨u, (runInputs_cons_next hstep _).trans hu, hur, (heff.sameFrame sending (rest.sending ht)).trans hsame⟩

section Acquired

variable {s : State} (hd : s.initDone = true) {q : BitSeq} (hq : q ≠ [])
include hd hq

/-- After each tick before the last one, the frame that took the bus is in flight. -/
theorem runInputs_acquire_sameFrame (c : Source) {n : Nat} (hn : n < 3 * q.length + 3) :
    ∃ u, runInputs (List.replicate n .tick) (s.acquire q c) = .next u ∧ u.role = .sending ∧
      (s.acquire q c).sameFrame u :=
  (tickRun_atRelease (s := s.acquire q c) hd rfl rfl rfl hq).sameFrame hd rfl (by simp; omega)

/-- The ticks after a host send took the bus put its frame out, release the bus and answer the host. -/
theorem runInputs_acquire_host :
    runInputs (List.replicate (3 * q.length + 3) .tick) (s.acquire q .host) =
      .next (s.acquire q .host).atRelease.releaseBus.finishHostSend := by
  have hout := runInputs_to_atRelease (s := s.acquire q .host) hd rfl rfl rfl hq
  have hrel := exec_txRelease_host (s := (s.acquire q .host).atRelease) hd rfl rfl rfl
  rw [List.replicate_succ']
  exact (runInputs_append hout _).trans
    (runInputs_cons_next ((stepInput_of_selected (selected_tick_sending rfl)).trans hrel) [])

end Acquired

theorem frameBits_ne_nil (p : Payload) : frameBits p ≠ [] :=
  List.ne_nil_of_length_pos (by rw [length_frameBits]; omega)

/-- The framer with the request of a host send latched (R100). -/
def State.requested (s : State) (p : Payload) : State := { s with hostReq := ⟨true, p⟩, hostPolls := 0 }

/-- The framer after a host send of `p` on a free bus. -/
def State.hostSent (s : State) (p : Payload) : State :=
  ((s.requested p).acquire (frameBits p) .host).atRelease.releaseBus.finishHostSend

/-- A host send on a free bus runs from its request to its result (R100, R101, R109). -/
theorem runInputs_hostSent {s : State} {p : Payload} (hd : s.initDone = true) (hr : s.role = .receiving)
    (hidle : s.txph = .idle) (hv : s.hostReq.valid = false) (hc : s.csIn = false) (hf : p.length ≤ maxPayload) :
    runInputs (.hostSend p :: List.replicate (1 + (3 * (16 + 8 * p.length) + 3)) .tick) s = .next (s.hostSent p) := by
  have hlatch : stepInput (.hostSend p) s = .next (s.requested p) := stepInput_hostSend_latches hd hv hf
  have hpoll : (s.requested p).polling = true := polling_iff.mpr ⟨hr, rfl, hidle⟩
  have hacquire : stepInput .tick (s.requested p) = .next ((s.requested p).acquire (frameBits p) .host) :=
    (stepInput_tick_polling hpoll).trans (exec_txPoll_free hd hpoll hc hf)
  have hframe := runInputs_acquire_host (s := s.requested p) hd (frameBits_ne_nil p)
  rw [length_frameBits] at hframe
  rw [runInputs_cons_next hlatch, Nat.add_comm 1, List.replicate_succ, runInputs_cons_next hacquire]
  exact hframe

section HostSent

variable (s : State) (p : Payload)

/-- What a completed host send leaves of the registers the host and the sampler see. -/
theorem State.hostSent_frame :
    (s.hostSent p).events = s.events ++ [.sendResult .ok] ∧ (s.hostSent p).hostReq = ⟨false, p⟩ ∧
      (s.hostSent p).rxbuf = s.rxbuf ∧ (s.hostSent p).cfg = s.cfg := by
  rw [State.hostSent, finishHostSend_eq]
  exact ⟨rfl, rfl, rfl, rfl⟩

theorem State.hostSent_last :
    (s.hostSent p).last = if s.cfg.retainOnSend && p != sentinel then p else s.last := by
  rw [State.hostSent, finishHostSend_eq]
  rfl

theorem State.hostSent_lastValid :
    (s.hostSent p).lastValid = if s.cfg.retainOnSend && p != sentinel then true else s.lastValid := by
  rw [State.hostSent, finishHostSend_eq]
  rfl

/-- It is receiving again, with the lines released and the handlers enabled, its levels as they were. -/
theorem State.hostSent_receiving :
    (s.hostSent p).initDone = s.initDone ∧ (s.hostSent p).role = .receiving ∧ (s.hostSent p).irqEn = true ∧
      (s.hostSent p).oe = false ∧ (s.hostSent p).txph = .idle ∧ ∀ l, (s.hostSent p).level l = s.level l := by
  rw [State.hostSent, finishHostSend_eq]
  exact ⟨rfl, rfl, rfl, rfl, rfl, fun l => by cases l <;> rfl⟩

end HostSent

/-- Settles O20: the run ends in the state after a completed host send. -/
theorem hostSendCompletesOnFreeBus : Obligations.HostSendCompletesOnFreeBus := by
  intro s p hinv hd hr hv hc hf
  obtain ⟨-, -, hidle⟩ := (hinv.spec hd).roleAgrees
  obtain ⟨hev, hreq, hbuf, -⟩ := s.hostSent_frame p
  obtain ⟨-, hrole, hirq, hoe, -, -⟩ := s.hostSent_receiving p
  refine ⟨_, runInputs_hostSent hd hr (hidle.mp hr) hv hc hf, hev, by rw [hreq], hrole, hirq, hoe, hbuf,
    fun hret hp => ?_, fun hno => ?_⟩
  · have hk : (s.cfg.retainOnSend && p != sentinel) = true := by simp [hret, hp]
    rw [State.hostSent_last, State.hostSent_lastValid, hk]
    exact ⟨rfl, rfl⟩
  · have hk : (s.cfg.retainOnSend && p != sentinel) = false := by rcases hno with h | h <;> simp [h]
    rw [State.hostSent_last, State.hostSent_lastValid, hk]
    exact ⟨rfl, rfl⟩

/-- The framer after an internal send of the frame `q`. -/
abbrev State.internalSent (s : State) (q : BitSeq) : State := (s.acquire q .internal).atRelease.releaseBus

/-- Settles O37: the frame of the internal send is in flight until the tick that releases the bus, and then the request
is the one that waits. -/
theorem waitingHostSendSurvivesInternalSend : Obligations.WaitingHostSendSurvivesInternalSend := by
  intro s hinv hd hr hv hc survives
  obtain ⟨hirq, -, -⟩ := (hinv.spec hd).roleAgrees
  have hq : s.irqEn = true := hirq.mp hr
  have hsurvives {q : BitSeq} (hne : q ≠ [])
      (hfall : stepInput (.pin .cs false) s =
        .next (({ s with csIn := false, rxbuf := [] } : State).acquire q .internal)) : survives q := by
    have hend := (runInputs_cons_next hfall _).trans
      (runInputs_acquire_internal (s := { s with csIn := false, rxbuf := [] }) hd hne)
    refine ⟨fun n hn => ?_, _, hend, rfl, ?_⟩
    · rcases hn.lt_or_eq with hlt | rfl
      · obtain ⟨u, hu, hur, hsame⟩ :=
          runInputs_acquire_sameFrame (s := { s with csIn := false, rxbuf := [] }) hd hne .internal hlt
        refine ⟨u, (runInputs_cons_next hfall _).trans hu, ?_⟩
        rw [hsame]
        exact ⟨rfl, rfl, rfl, fun _ => ⟨rfl, rfl, rfl⟩⟩
      · exact ⟨_, hend, rfl, rfl, rfl, fun hlt => absurd hlt (Nat.lt_irrefl _)⟩
    · rw [selected_tick_receiving rfl rfl]
      exact congrArg (fun b : Bit => Except.ok (if b then Instr.txPoll else .tickNone)) hv
  refine ⟨fun hbad => hsurvives (by decide) ?_, fun hvalid hsent hl => hsurvives (frameBits_ne_nil _) ?_⟩
  · exact (Effect.csFallReply hq hc hbad).stepInput_eq hd
  · obtain ⟨m, hm⟩ : ∃ m, frameDecode s.rxbuf = .ok m := by
      cases hdec : frameDecode s.rxbuf with
      | error e => simp [isValid, hdec] at hvalid
      | ok m => exact ⟨m, rfl⟩
    rw [isValid_of_ok hm] at hvalid
    rw [isSentinel_of_ok hm, beq_iff_eq] at hsent
    exact (Effect.csFallResend hq hc hm hvalid hsent hl hinv.lastFits).stepInput_eq hd

/-- Settles O39: the dispatch answers with the sentinel frame, which stays in flight until its last tick. -/
theorem corruptedFrameElicitsOneErrorFrame : Obligations.CorruptedFrameElicitsOneErrorFrame := by
  intro s q h hbad
  have hrun := (runInputs_wireInputs h q).trans (frameDone_malformed hbad _)
  obtain ⟨hd, -⟩ := h
  refine ⟨⟨_, hrun, rfl, rfl, rfl, rfl, rfl⟩, fun n hn => ?_, (s.heard q).internalSent sentinelFrame, ?_,
    rfl, rfl, rfl, rfl⟩
  · obtain ⟨u, hu, hur, hsame⟩ :=
      runInputs_acquire_sameFrame (s := s.heard q) hd (q := sentinelFrame) (by decide) .internal hn
    refine ⟨u, (runInputs_append hrun _).trans hu, hur, ?_⟩
    rw [hsame]
    rfl
  · exact (runInputs_append hrun _).trans
      (runInputs_acquire_internal (s := s.heard q) hd (q := sentinelFrame) (by decide))

/-- A framer between two frames that retains `a` and has emitted `events`. -/
structure State.Retaining (s : State) (a : Payload) (events : List Event) : Prop where
  listening : s.listening
  retained : s.last = a
  valid : s.lastValid = true
  told : s.events = events
  fits : framesFit s.cfg sentinel

section Resend

variable {s : State} {a : Payload} {es : List Event} (h : s.Retaining a es) (hf : a.length ≤ maxPayload)
include h hf

/-- A received sentinel frame starts a resend of the retained payload (R136). -/
theorem State.Retaining.resends :
    runInputs (wireInputs sentinelFrame) s = .next ((s.heard sentinelFrame).acquire (frameBits a) .internal) := by
  obtain ⟨hlisten, rfl, hl, -, hfit⟩ := h
  rw [runInputs_wireInputs hlisten, sentinelFrame_eq, take_of_framesFit hfit, ← sentinelFrame_eq]
  exact frameDone_resend frameDecode_sentinelFrame rfl rfl hl hf

/-- After the resend's last tick the framer retains the payload as before. -/
theorem State.Retaining.resent :
    ∃ t, runInputs (wireInputs sentinelFrame ++ List.replicate (3 * (16 + 8 * a.length) + 3) .tick) s = .next t ∧
      t.Retaining a es := by
  have hrun := h.resends hf
  obtain ⟨⟨hd, -⟩, hlast, hl, htold, hfit⟩ := h
  refine ⟨(s.heard sentinelFrame).internalSent (frameBits a), (runInputs_append hrun _).trans ?_,
    ⟨hd, rfl, rfl, rfl, rfl, rfl⟩, hlast, hl, htold, hfit⟩
  rw [← length_frameBits]
  exact runInputs_acquire_internal (s := s.heard sentinelFrame) hd (frameBits_ne_nil a)

/-- So after any number of resends. -/
theorem State.Retaining.resent_many (n : Nat) :
    ∃ t, runInputs
        (List.replicate n (wireInputs sentinelFrame ++ List.replicate (3 * (16 + 8 * a.length) + 3) .tick)).flatten s
          = .next t ∧ t.Retaining a es := by
  induction n with
  | zero => exact ⟨s, rfl, h⟩
  | succ n ih =>
    obtain ⟨t, ht, hret⟩ := ih
    obtain ⟨u, hu, hret'⟩ := hret.resent hf
    refine ⟨u, ?_, hret'⟩
    rw [List.replicate_succ', List.flatten_concat, runInputs_append ht, hu]

end Resend

/-- The completed host send of a payload other than the sentinel leaves it retained (R108). -/
theorem State.hostSent_retaining {s : State} {a : Payload} (h : s.listening) (hret : s.cfg.retainOnSend = true)
    (hfit : framesFit s.cfg sentinel) (ha : a ≠ sentinel) :
    (s.hostSent a).Retaining a (s.events ++ [.sendResult .ok]) := by
  obtain ⟨hd, -, -, -, hc, hk⟩ := h
  obtain ⟨hev, -, -, hcfg⟩ := s.hostSent_frame a
  obtain ⟨hinit, hrole, hirq, -, hidle, hlev⟩ := s.hostSent_receiving a
  have hkeep : (s.cfg.retainOnSend && a != sentinel) = true := by simp [hret, ha]
  refine ⟨⟨hinit.trans hd, hrole, hirq, hidle, (hlev .cs).trans hc, (hlev .clk).trans hk⟩, ?_, ?_, hev, ?_⟩
  · rw [State.hostSent_last, hkeep, if_pos rfl]
  · rw [State.hostSent_lastValid, hkeep, if_pos rfl]
  · rwa [hcfg]

/-- Settles O40: the host send leaves the payload retained, and each received sentinel frame keeps it so. -/
theorem eachErrorResendsTheSentPayload : Obligations.EachErrorResendsTheSentPayload := by
  intro s a h hret hfit hv hf ha sent resent n
  have hsent : runInputs sent s = .next (s.hostSent a) := by
    obtain ⟨hd, hr, -, hidle, hc, -⟩ := h
    exact runInputs_hostSent hd hr hidle hv hc hf
  obtain ⟨t, ht, hkeep⟩ := (State.hostSent_retaining h hret hfit ha).resent_many hf n
  have hrun := (runInputs_append hsent _).trans ht
  have hnext := (runInputs_append hrun _).trans (hkeep.resends hf)
  obtain ⟨⟨-, hr, -⟩, hlast, hl, htold, -⟩ := hkeep
  exact ⟨⟨t, hrun, hr, hlast, hl, htold⟩, _, hnext, rfl, rfl, rfl, rfl, rfl, hlast, htold⟩

end Sys2Proof.Machine
end

section
/-! PROOFS. The link of two framers: runs, moves and the delivery of pin steps (R57). -/

namespace Sys2Proof.Machine

/-- Some number of steps of the link leads from `k` to `k'`. -/
def Link.Reaches (k k' : Link) : Prop := ∃ n, k.run n = .next k'

theorem Link.run_add {m : Nat} {k k' : Link} (h : k.run m = .next k') (n : Nat) : k.run (m + n) = k'.run n := by
  induction m generalizing k with
  | zero =>
    cases h
    rw [Nat.zero_add]
  | succ m ih =>
    rw [Nat.succ_add]
    simp only [Link.run] at h ⊢
    split at h
    · exact ih h
    · cases h
    · cases h

theorem Link.Reaches.refl (k : Link) : k.Reaches k := ⟨0, rfl⟩

theorem Link.Reaches.trans {k k' k'' : Link} (h : k.Reaches k') (h' : k'.Reaches k'') : k.Reaches k'' := by
  obtain ⟨m, hm⟩ := h
  obtain ⟨n, hn⟩ := h'
  exact ⟨m + n, (Link.run_add hm n).trans hn⟩

theorem Link.Reaches.of_step {k k' : Link} (h : k.step = .next k') : k.Reaches k' := ⟨1, by simp [Link.run, h]⟩

/-- The wires as two endpoints drive them, the free values being those from `n` on. -/
def wiresAt (n : Nat) (a b : State) : Wires where
  cs := lineLevel (Config.freeLevel n) (a.drive .cs) (b.drive .cs)
  clk := lineLevel (Config.freeLevel (n + 1)) (a.drive .clk) (b.drive .clk)
  data := lineLevel (Config.freeLevel (n + 2)) (a.drive .data) (b.drive .data)

theorem Link.evalWires_eq (k : Link) : k.evalWires = wiresAt k.draws (k.get .a) (k.get .b) := rfl

@[simp] theorem Link.get_set_self (k : Link) (d : Side) (s : State) : (k.set d s).get d = s := by
  cases d <;> rfl

theorem Link.get_set (k : Link) (d : Side) (s : State) : (k.set d s).get = Function.update k.get d s := by
  funext e
  cases d <;> cases e <;> rfl

@[simp] theorem Link.set_wires (k : Link) (d : Side) (s : State) : (k.set d s).wires = k.wires := by
  cases d <;> rfl

@[simp] theorem Link.set_pins (k : Link) (d : Side) (s : State) : (k.set d s).pins = k.pins := by
  cases d <;> rfl

@[simp] theorem Link.set_moves (k : Link) (d : Side) (s : State) : (k.set d s).moves = k.moves := by
  cases d <;> rfl

@[simp] theorem Link.set_draws (k : Link) (d : Side) (s : State) : (k.set d s).draws = k.draws := by
  cases d <;> rfl

/-- With no pin step due, the next move evaluates the wires and schedules the pin steps. -/
theorem Link.reaches_move {k : Link} {m : Move} {ms : List Move} {t : State} (hp : k.pins = []) (hm : k.moves = m :: ms)
    (h : stepInput (m.input k.wires) (k.get m.side) = .next t) :
    k.Reaches (({ k with moves := ms }).set m.side t).refresh := by
  refine .of_step ?_
  obtain ⟨a, b, w, pins, moves, n⟩ := k
  cases hp
  cases hm
  simp only [Link.get] at h
  simp only [Link.step, Link.move, Link.get, h]

/-- A pin step by which the endpoint drives nothing else leaves the wires. -/
theorem Link.reaches_pin {k : Link} {d : Side} {l : Line} {v : Bit} {rest : List (Side × Line × Bit)} {t : State}
    (hp : k.pins = (d, l, v) :: rest) (hd : (k.get d).initDone = true) (h : stepInput (.pin l v) (k.get d) = .next t)
    (hdrive : t.drives = (k.get d).drives) : k.Reaches (({ k with pins := rest }).set d t) := by
  refine .of_step ?_
  obtain ⟨a, b, w, pins, moves, n⟩ := k
  cases hp
  simp only [Link.get] at hd h hdrive
  simp only [Link.step, Link.deliver, Link.get, hd, h, hdrive, if_true]

/-- The framer with its three tracked levels at those of the wires. -/
def State.tracking (s : State) (w : Wires) : State := { s with csIn := w.cs, clkIn := w.clk, dataIn := w.data }

@[simp] theorem State.tracking_drive (s : State) (w : Wires) (l : Line) : (s.tracking w).drive l = s.drive l := by
  cases l <;> rfl

theorem State.tracking_drives (s : State) (w : Wires) : (s.tracking w).drives = s.drives := by
  simp [State.drives]

/-- One wire at a new level. -/
def Wires.set (w : Wires) (l : Line) (v : Bit) : Wires :=
  match l with
  | .cs => { w with cs := v }
  | .clk => { w with clk := v }
  | .data => { w with data := v }

theorem State.setLevel_tracking (s : State) (w : Wires) (l : Line) (v : Bit) :
    (s.tracking w).setLevel l v = s.tracking (w.set l v) := by
  cases l <;> rfl

/-- A tick of the sequencer neither reads nor writes a tracked level. -/
theorem Effect.tracking {s t : State} (h : Effect s .tick t) (hr : s.role = .sending) (w : Wires) :
    Effect (s.tracking w) .tick (t.tracking w) := by
  cases h with
  | csAssert hr hp => exact .csAssert hr hp
  | data hr hp hlt => exact .data (s := s.tracking w) hr hp hlt
  | clkHigh hr hp => exact .clkHigh hr hp
  | clkLow hr hp => exact .clkLow hr hp
  | csDeassert hr hp => exact .csDeassert hr hp
  | releaseHost hr hp hs => exact .releaseHost hr hp hs
  | releaseInternal hr hp hs => exact .releaseInternal hr hp hs
  | pollFree hp | pollTimeout hp | pollBusy hp =>
    obtain ⟨hr', -⟩ := polling_iff.mp hp
    cases hr.symm.trans hr'

theorem stepInput_tick_tracking {s t : State} (hd : s.initDone = true) (hr : s.role = .sending)
    (h : stepInput .tick s = .next t) (w : Wires) : stepInput .tick (s.tracking w) = .next (t.tracking w) :=
  Effect.stepInput_eq (s := s.tracking w) hd (((stepInput_iff_effect hd).mp h).tracking hr w)

/-- No handler runs on a pin step of this line: the edge is masked, or the line is Data (R120, R125). -/
def State.deafTo (s : State) (l : Line) : Prop := s.irqEn = false ∨ l = .data

theorem stepInput_pin_deaf {s : State} (hd : s.initDone = true) {l : Line} (h : s.deafTo l) (w : Wires) (v : Bit) :
    stepInput (.pin l v) (s.tracking w) = .next (s.tracking (w.set l v)) := by
  rw [← State.setLevel_tracking]
  exact stepInput_pin_quiet (s := s.tracking w) hd (h.imp_right .inr)

/-- Only changed lines have pin steps. -/
theorem level_ne_of_mem_pinSteps {order : List Line} {w w' : Wires} {d : Side} {l : Line} {v : Bit}
    (h : (d, l, v) ∈ pinSteps order w w') : w'.level l ≠ w.level l := by
  simp only [pinSteps, List.mem_flatMap, List.mem_filter, bne_iff_ne] at h
  obtain ⟨m, ⟨-, hne⟩, hmem⟩ := h
  have hl : l = m := by
    simp only [List.mem_cons, Prod.mk.injEq, List.not_mem_nil, or_false] at hmem
    rcases hmem with ⟨-, hl, -⟩ | ⟨-, hl, -⟩ <;> exact hl
  rwa [hl]

@[simp] theorem pinSteps_self (order : List Line) (w : Wires) : pinSteps order w w = [] := by
  simp [pinSteps]

/-- A move that leaves the wires as they are is all. -/
theorem Link.reaches_move_still {k : Link} {m : Move} {ms : List Move} {t : State} (hp : k.pins = [])
    (hm : k.moves = m :: ms) (h : stepInput (m.input k.wires) (k.get m.side) = .next t)
    (hw : (k.set m.side t).evalWires = k.wires) :
    k.Reaches { ({ k with moves := ms } : Link).set m.side t with draws := k.draws + 3 } := by
  have hmove := Link.reaches_move hp hm h
  obtain ⟨a, b, w, pins, moves, n⟩ := k
  cases hp
  have hw' : ((Link.mk a b w [] ms n).set m.side t).evalWires = w := by
    refine Eq.trans ?_ hw
    cases m.side <;> rfl
  simp only [Link.refresh, hw', Link.set_wires, pinSteps_self] at hmove
  convert hmove using 1
  cases m.side <;> rfl

end Sys2Proof.Machine
end

section
/-! PROOFS. A collision (R184): two framers that send at once are both masked, so whatever the contended wires show,
pin steps only move their tracked levels. -/

namespace Sys2Proof.Machine

/-- The endpoints of the link are `f`, up to the levels they track. -/
def Link.Near (k : Link) (f : Side → State) : Prop := ∀ d, ∃ w, k.get d = (f d).tracking w

theorem Link.Near.set {k : Link} {f : Side → State} (h : k.Near f) (d : Side) (s : State) (w : Wires) :
    (k.set d (s.tracking w)).Near (Function.update f d s) := by
  intro e
  rw [Link.get_set]
  by_cases he : e = d
  · subst he
    exact ⟨w, by simp⟩
  · simpa [he] using h e

theorem Link.Near.evalWires {k : Link} {f : Side → State} (h : k.Near f) :
    k.evalWires = wiresAt k.draws (f .a) (f .b) := by
  obtain ⟨wa, ha⟩ := h .a
  obtain ⟨wb, hb⟩ := h .b
  rw [Link.evalWires_eq, ha, hb]
  simp [wiresAt]

/-- Pin steps without a handler leave the endpoints as they are but for the levels. -/
theorem Link.Near.reaches_deaf_pins {k : Link} {f : Side → State} (h : k.Near f) (hd : ∀ d, (f d).initDone = true)
    (hdeaf : ∀ p ∈ k.pins, (f p.1).deafTo p.2.1) :
    ∃ k', k.Reaches k' ∧ k'.Near f ∧ k'.wires = k.wires ∧ k'.pins = [] ∧ k'.moves = k.moves := by
  induction hp : k.pins generalizing k with
  | nil => exact ⟨k, .refl k, h, rfl, hp, rfl⟩
  | cons p rest ih =>
    obtain ⟨d, l, v⟩ := p
    obtain ⟨w, hw⟩ := h d
    have hpin : k.Reaches (({ k with pins := rest } : Link).set d ((f d).tracking (w.set l v))) := by
      refine Link.reaches_pin hp ?_ ?_ ?_ <;> rw [hw]
      · exact hd d
      · exact stepInput_pin_deaf (hd d) (hdeaf (d, l, v) (by simp [hp])) w v
      · rw [State.tracking_drives, State.tracking_drives]
    have hnear : (({ k with pins := rest } : Link).set d ((f d).tracking (w.set l v))).Near f := by
      have hset := Link.Near.set (k := { k with pins := rest }) h d (f d) (w.set l v)
      rwa [Function.update_eq_self] at hset
    obtain ⟨k', hk', hnear', hwires, hpins, hmoves⟩ :=
      ih hnear (fun p hmem => hdeaf p (by simpa [hp] using .inr (by simpa using hmem))) (by simp)
    exact ⟨k', hpin.trans hk', hnear', by simpa using hwires, hpins, by simpa using hmoves⟩

/-- The link stands at `f` with the wires as `f` drives them, no pin step due and the moves `ms` to come. -/
structure Link.At (k : Link) (f : Side → State) (ms : List Move) : Prop where
  near : k.Near f
  wires : ∃ n, k.wires = wiresAt n (f .a) (f .b)
  pins : k.pins = []
  moves : k.moves = ms

/-- A tick whose wire changes reach no handler. -/
theorem Link.At.tick {k : Link} {f : Side → State} {d : Side} {t : State} {ms : List Move}
    (h : k.At f (.tick d :: ms)) (hd : ∀ e, (f e).initDone = true) (hr : (f d).role = .sending)
    (hstep : stepInput .tick (f d) = .next t)
    (hdeaf : ∀ m n l,
      (wiresAt n (Function.update f d t .a) (Function.update f d t .b)).level l ≠ (wiresAt m (f .a) (f .b)).level l →
        ∀ e, (Function.update f d t e).deafTo l) :
    ∃ k', k.Reaches k' ∧ k'.At (Function.update f d t) ms := by
  obtain ⟨hnear, ⟨m, hm⟩, hpins, hmoves⟩ := h
  obtain ⟨w, hw⟩ := hnear d
  have hmove := Link.reaches_move hpins hmoves (t := t.tracking w) (by
    change stepInput .tick (k.get d) = _
    rw [hw]
    exact stepInput_tick_tracking (hd d) hr hstep w)
  have hset := Link.Near.set (k := { k with moves := ms }) hnear d t w
  have hwires := hset.evalWires
  rw [Link.set_draws] at hwires
  have hinit (e : Side) : (Function.update f d t e).initDone = true := by
    by_cases he : e = d
    · subst he
      simpa using ((stepInput_iff_effect (hd e)).mp hstep).initDone (hd e)
    · simpa [he] using hd e
  obtain ⟨k', hk', hnear', hwires', hpins', hmoves'⟩ := Link.Near.reaches_deaf_pins
    (k := (({ k with moves := ms } : Link).set d (t.tracking w)).refresh) hset hinit fun p hp => by
      change p ∈ (Link.set _ d _).pins ++ pinSteps _ (Link.set _ d _).wires (Link.set _ d _).evalWires at hp
      rw [hwires, Link.set_pins, Link.set_wires] at hp
      dsimp only at hp
      rw [hpins, List.nil_append, hm] at hp
      exact hdeaf m k.draws p.2.1 (level_ne_of_mem_pinSteps hp) p.1
  exact ⟨k', hmove.trans hk', hnear', ⟨k.draws, hwires'.trans hwires⟩, hpins', hmoves'.trans (Link.set_moves _ _ _)⟩

/-- Two endpoints. -/
def endpoints (a b : State) : Side → State
  | .a => a
  | .b => b

@[simp] theorem update_endpoints_a (a b s : State) : Function.update (endpoints a b) .a s = endpoints s b := by
  funext e
  cases e <;> rfl

@[simp] theorem update_endpoints_b (a b s : State) : Function.update (endpoints a b) .b s = endpoints a s := by
  funext e
  cases e <;> rfl

theorem endpoints_forall {a b : State} {P : State → Prop} (ha : P a) (hb : P b) (d : Side) : P (endpoints a b d) := by
  cases d
  · exact ha
  · exact hb

/-- `n` ticks of each endpoint, in turn. -/
abbrev rounds (n : Nat) : List Move := (List.replicate n [Move.tick .a, Move.tick .b]).flatten

/-- One tick of each endpoint, after which both are masked as before. -/
theorem Link.At.round {k : Link} {a a' b b' : State} {ms : List Move}
    (h : k.At (endpoints a b) (.tick .a :: .tick .b :: ms)) (ha : a.initDone = true) (ha' : a'.initDone = true)
    (hb : b.initDone = true) (hra : a.role = .sending) (hrb : b.role = .sending) (hma' : a'.irqEn = false)
    (hmb : b.irqEn = false) (hmb' : b'.irqEn = false) (hstep : stepInput .tick a = .next a')
    (hstep' : stepInput .tick b = .next b') : ∃ k', k.Reaches k' ∧ k'.At (endpoints a' b') ms := by
  obtain ⟨k₁, hk₁, h₁⟩ := h.tick (endpoints_forall (P := (·.initDone = true)) ha hb) hra hstep fun _ _ l _ => by
    rw [update_endpoints_a]
    exact endpoints_forall (P := (·.deafTo l)) (.inl hma') (.inl hmb)
  rw [update_endpoints_a] at h₁
  obtain ⟨k₂, hk₂, h₂⟩ := h₁.tick (endpoints_forall (P := (·.initDone = true)) ha' hb) hrb hstep' fun _ _ l _ => by
    rw [update_endpoints_b]
    exact endpoints_forall (P := (·.deafTo l)) (.inl hma') (.inl hmb')
  rw [update_endpoints_b] at h₂
  exact ⟨k₂, hk₁.trans hk₂, h₂⟩

theorem State.sameFrame.masked {s t : State} (h : s.sameFrame t) (hm : s.irqEn = false) : t.irqEn = false := by
  rw [h]
  exact hm

/-- Two frames of one length go out side by side, each sequencer as if it were alone. -/
theorem Link.At.side_by_side {is : List Instr} {a a' : State} (hrun : TickRun is a a') (ha : a.initDone = true)
    (hma : a.irqEn = false) (hra : a'.role = .sending) {js : List Instr} {b b' : State} (hrun' : TickRun js b b')
    (hlen : js.length = is.length) (hb : b.initDone = true) (hmb : b.irqEn = false) (hrb : b'.role = .sending)
    {k : Link} {ms : List Move} (h : k.At (endpoints a b) (rounds is.length ++ ms)) :
    ∃ k', k.Reaches k' ∧ k'.At (endpoints a' b') ms := by
  induction hrun generalizing js b k with
  | nil =>
    obtain rfl : js = [] := List.eq_nil_of_length_eq_zero hlen
    cases hrun'
    exact ⟨k, .refl k, h⟩
  | cons sending select run rest ih =>
    cases hrun' with
    | nil => cases hlen
    | cons sending' select' run' rest' =>
      have hstep := (stepInput_of_selected select).trans run
      have hstep' := (stepInput_of_selected select').trans run'
      have heff := (stepInput_iff_effect ha).mp hstep
      have heff' := (stepInput_iff_effect hb).mp hstep'
      have hma₁ := (heff.sameFrame sending (rest.sending hra)).masked hma
      have hmb₁ := (heff'.sameFrame sending' (rest'.sending hrb)).masked hmb
      have ha₁ := heff.initDone ha
      have hb₁ := heff'.initDone hb
      obtain ⟨k₁, hk₁, h₁⟩ := h.round ha ha₁ hb sending sending' hma₁ hmb hmb₁ hstep hstep'
      obtain ⟨k₂, hk₂, h₂⟩ := ih ha₁ hma₁ hra rest' (Nat.succ.inj hlen) hb₁ hmb₁ h₁
      exact ⟨k₂, hk₁.trans hk₂, h₂⟩

/-- A framer just reset that has taken the bus with the frame of `p`. -/
def State.resetSending (c : Config) (p : Payload) : State :=
  ((State.resetWith c false false false).requested p).acquire (frameBits p) .host

section Reset

variable (c : Config) {p : Payload} (hf : p.length ≤ maxPayload)
include hf

/-- A host send and a poll on the quiet bus lead there (R100, R101). -/
theorem stepInput_hostSend_reset :
    stepInput (.hostSend p) (State.resetWith c false false false) =
      .next ((State.resetWith c false false false).requested p) :=
  stepInput_hostSend_latches rfl rfl hf

theorem stepInput_tick_reset_requested :
    stepInput .tick ((State.resetWith c false false false).requested p) = .next (State.resetSending c p) :=
  (stepInput_tick_polling rfl).trans (exec_txPoll_free rfl rfl rfl hf)

end Reset

theorem tickRun_resetSending (c : Config) (p : Payload) :
    TickRun ([.txCsAssert] ++ bitOps (frameBits p).length ++ [.txCsDeassert]) (State.resetSending c p)
      (State.resetSending c p).atRelease :=
  tickRun_atRelease (s := State.resetSending c p) rfl rfl rfl rfl (frameBits_ne_nil p)

/-- The last tick of the frame answers the host. -/
theorem stepInput_tick_resetSending_atRelease (c : Config) (p : Payload) :
    stepInput .tick (State.resetSending c p).atRelease =
      .next ((State.resetWith c false false false).hostSent p) := by
  have hrel := exec_txRelease_host (s := (State.resetSending c p).atRelease) rfl rfl rfl rfl
  exact (stepInput_of_selected (selected_tick_sending rfl)).trans hrel

/-- At the end of its frame a framer drives CS and Clock low. -/
theorem drive_resetSending_atRelease (c : Config) (p : Payload) :
    (State.resetSending c p).atRelease.drive .cs = some false ∧
      (State.resetSending c p).atRelease.drive .clk = some false :=
  ⟨rfl, congrArg some (State.atBit_clkOut (s := State.resetSending c p) rfl (State.resetSending c p).txseq.length)⟩

theorem drive_hostSent (s : State) (p : Payload) (l : Line) : (s.hostSent p).drive l = none := by
  obtain ⟨-, -, -, hoe, -⟩ := s.hostSent_receiving p
  exact drive_of_released hoe l

theorem rounds_add (m n : Nat) : rounds (m + n) = rounds m ++ rounds n := by
  rw [rounds, List.replicate_add, List.flatten_append]

/-- On two framers just reset, two host sends and two polls lead both to take the quiet bus. -/
theorem reaches_both_sending (ca cb : Config) {p q : Payload} (hp : p.length ≤ maxPayload)
    (hq : q.length ≤ maxPayload) (ms : List Move) :
    ∃ k, (Link.start ca cb (.send .a p :: .send .b q :: (rounds 1 ++ ms))).Reaches k ∧
      k.At (endpoints (State.resetSending ca p) (State.resetSending cb q)) ms := by
  have hsend_a := Link.reaches_move_still (k := Link.start ca cb (.send .a p :: .send .b q :: (rounds 1 ++ ms)))
    rfl rfl (stepInput_hostSend_reset ca hp) rfl
  have hsend_b := Link.reaches_move_still (k := { Link.start ca cb (.send .b q :: (rounds 1 ++ ms)) with
    a := (State.resetWith ca false false false).requested p, draws := 3 }) rfl rfl (stepInput_hostSend_reset cb hq) rfl
  have hpoll_a := Link.reaches_move_still (k := { Link.start ca cb (rounds 1 ++ ms) with
    a := (State.resetWith ca false false false).requested p
    b := (State.resetWith cb false false false).requested q
    draws := 6 }) rfl rfl (stepInput_tick_reset_requested ca hp) rfl
  have hpoll_b := Link.reaches_move_still (k := { Link.start ca cb (.tick .b :: ms) with
    a := State.resetSending ca p
    b := (State.resetWith cb false false false).requested q
    draws := 9 }) rfl rfl (stepInput_tick_reset_requested cb hq) rfl
  refine ⟨_, hsend_a.trans (hsend_b.trans (hpoll_a.trans hpoll_b)), fun d => ⟨⟨false, false, false⟩, ?_⟩,
    ⟨0, rfl⟩, rfl, rfl⟩
  cases d <;> rfl

/-- At the end of two frames the releases change the Data wire alone, so no handler runs, and both hosts are told. -/
theorem Link.At.release_both {k : Link} {ca cb : Config} {p q : Payload}
    (h : k.At (endpoints (State.resetSending ca p).atRelease (State.resetSending cb q).atRelease) (rounds 1)) :
    ∃ k', k.Reaches k' ∧ k'.At (endpoints ((State.resetWith ca false false false).hostSent p)
      ((State.resetWith cb false false false).hostSent q)) [] := by
  obtain ⟨hcs_a, hclk_a⟩ := drive_resetSending_atRelease ca p
  obtain ⟨hcs_b, hclk_b⟩ := drive_resetSending_atRelease cb q
  obtain ⟨hinit_a, -⟩ := (State.resetWith ca false false false).hostSent_receiving p
  have hdata {w w' : Wires} {l : Line} (hne : w'.level l ≠ w.level l) (hcs : w'.cs = w.cs) (hclk : w'.clk = w.clk) :
      l = .data := by
    cases l with
    | cs => exact absurd hcs hne
    | clk => exact absurd hclk hne
    | data => rfl
  obtain ⟨k₁, hk₁, h₁⟩ := h.tick (endpoints_forall (P := (·.initDone = true)) rfl rfl) rfl
    (stepInput_tick_resetSending_atRelease ca p) fun m n l hne e => by
      rw [update_endpoints_a] at hne
      exact .inr (hdata hne (by simp [wiresAt, endpoints, drive_hostSent, hcs_a, hcs_b, lineLevel])
        (by simp [wiresAt, endpoints, drive_hostSent, hclk_a, hclk_b, lineLevel]))
  rw [update_endpoints_a] at h₁
  obtain ⟨k₂, hk₂, h₂⟩ := h₁.tick (endpoints_forall (P := (·.initDone = true)) hinit_a rfl) rfl
    (stepInput_tick_resetSending_atRelease cb q) fun m n l hne e => by
      rw [update_endpoints_b] at hne
      exact .inr (hdata hne (by simp [wiresAt, endpoints, drive_hostSent, hcs_b, lineLevel])
        (by simp [wiresAt, endpoints, drive_hostSent, hclk_b, lineLevel]))
  rw [update_endpoints_b] at h₂
  exact ⟨k₂, hk₁.trans hk₂, h₂⟩

/-- Settles O57: both take the bus, both frames go out side by side, and both are released and answered. -/
theorem collisionLosesBothMessages : Obligations.CollisionLosesBothMessages := by
  intro ca cb p q hp hlen
  have hq : q.length ≤ maxPayload := hlen.le.trans hp
  have hops (r : Payload) (hr : r.length = p.length) :
      ([Instr.txCsAssert] ++ bitOps (frameBits r).length ++ [Instr.txCsDeassert]).length =
        3 * (16 + 8 * p.length) + 2 := by
    simp only [List.length_append, length_bitOps, length_frameBits, hr, List.length_singleton]
    omega
  obtain ⟨k₁, hk₁, h₁⟩ := reaches_both_sending ca cb hp hq (rounds (3 * (16 + 8 * p.length) + 2) ++ rounds 1)
  rw [← hops p rfl] at h₁
  obtain ⟨k₂, hk₂, h₂⟩ := h₁.side_by_side (tickRun_resetSending ca p) rfl rfl rfl (tickRun_resetSending cb q)
    ((hops q hlen).trans (hops p rfl).symm) rfl rfl rfl
  obtain ⟨k₃, hk₃, hnear, -, hpins, hmoves⟩ := h₂.release_both
  obtain ⟨n, hn⟩ := hk₁.trans (hk₂.trans hk₃)
  rw [← rounds_add, ← rounds_add] at hn
  obtain ⟨wa, ha⟩ : ∃ w, k₃.a = ((State.resetWith ca false false false).hostSent p).tracking w := hnear .a
  obtain ⟨wb, hb⟩ : ∃ w, k₃.b = ((State.resetWith cb false false false).hostSent q).tracking w := hnear .b
  obtain ⟨hev_a, -⟩ := (State.resetWith ca false false false).hostSent_frame p
  obtain ⟨hev_b, -⟩ := (State.resetWith cb false false false).hostSent_frame q
  obtain ⟨-, hrole_a, -⟩ := (State.resetWith ca false false false).hostSent_receiving p
  obtain ⟨-, hrole_b, -⟩ := (State.resetWith cb false false false).hostSent_receiving q
  refine ⟨n, k₃, hn, hpins, hmoves, ?_⟩
  rw [ha, hb]
  exact ⟨hev_a, hev_b, hrole_a, hrole_b⟩

end Sys2Proof.Machine
end

section
/-! PROOFS. A clean exchange: while one framer sends and the other listens, each tick of the sender changes at most one
wire, so the listener sees a peer's transmission (R57, R111). -/

namespace Sys2Proof.Machine

theorem Wires.set_level (w : Wires) (l : Line) : w.set l (w.level l) = w := by
  cases l <;> rfl

theorem Wires.level_set_self (w : Wires) (l : Line) (v : Bit) : (w.set l v).level l = v := by
  cases l <;> rfl

theorem Wires.level_set_ne (w : Wires) {l m : Line} (h : m ≠ l) (v : Bit) : (w.set l v).level m = w.level m := by
  cases l <;> cases m <;> simp [Wires.set, Wires.level] at h ⊢

/-- Every order delivers each line once (R22). -/
theorem filter_lineOrder (n : Fin 6) (l : Line) : (lineOrder n).filter (· = l) = [l] := by
  cases l <;> revert n <;> decide

/-- A change of one wire has one pin step for each endpoint, in any order. -/
theorem pinSteps_set {w : Wires} {l : Line} {v : Bit} (h : w.level l ≠ v) (n : Fin 6) :
    pinSteps (lineOrder n) w (w.set l v) = [(.a, l, v), (.b, l, v)] := by
  have hone : (lineOrder n).filter (fun m => (w.set l v).level m != w.level m) = [l] := by
    rw [← filter_lineOrder n l]
    refine List.filter_congr fun m _ => ?_
    by_cases hm : m = l
    · subst hm
      simpa [Wires.level_set_self] using Ne.symm h
    · simp [Wires.level_set_ne w hm, hm]
  rw [pinSteps, hone, List.flatMap_singleton, Wires.level_set_self]

/-- The levels a framer puts on the three wires while it drives them. -/
def State.outWires (s : State) : Wires := ⟨s.csOut, s.clkOut, s.dataOut⟩

/-- Beside a listener the wires are the sender's. -/
theorem wiresAt_sender {a b : State} (hd : a.initDone = true) (ho : a.oe = true) (hb : b.oe = false) (n : Nat) :
    wiresAt n a b = a.outWires := by
  simp [wiresAt, drive_of_oe hd ho, drive_of_released hb, lineLevel, State.outWires, State.outLevel]

theorem wiresAt_released {a b : State} (ha : a.oe = false) (hb : b.oe = false) (n : Nat) :
    wiresAt n a b = ⟨false, false, false⟩ := by
  simp [wiresAt, drive_of_released ha, drive_of_released hb, lineLevel]

theorem drives_of_released {s t : State} (hs : s.oe = false) (ht : t.oe = false) : t.drives = s.drives := by
  simp [State.drives, drive_of_released hs, drive_of_released ht]

/-- The link with the sender `a` and the listener `b` on settled wires: no pin step is due. -/
def Link.settled (a b : State) (w : Wires) (ms : List Move) (k : Link) : Prop :=
  ∃ n, k = ⟨a.tracking w, b, w, [], ms, n⟩

/-- A tick of the sender that changes at most the wire `l`: the listener takes that pin step, the sender tracks it. -/
theorem Link.settled.tick {k : Link} {a a' b b' : State} {w : Wires} {l : Line} {v : Bit} {ms : List Move}
    (h : k.settled a b w (.tick .a :: ms)) (ha : a.initDone = true) (hr : a.role = .sending)
    (hstep : stepInput .tick a = .next a') (ha' : a'.initDone = true) (hdeaf : a'.deafTo l)
    (hw : ∀ n, wiresAt n a' b = w.set l v) (hb : b.initDone = true) (hlevel : b.level l = w.level l)
    (hpin : stepInput (.pin l v) b = .next b') (hob : b.oe = false) (hob' : b'.oe = false) :
    ∃ k', k.Reaches k' ∧ k'.settled a' b' (w.set l v) ms := by
  obtain ⟨n, rfl⟩ := h
  have hwires : wiresAt n (a'.tracking w) b = w.set l v := by
    rw [← hw n]
    simp [wiresAt]
  have hmove : Link.Reaches _ ⟨a'.tracking w, b, wiresAt n (a'.tracking w) b,
      pinSteps (lineOrder (Config.freeOrder n)) w (wiresAt n (a'.tracking w) b), ms, n + 3⟩ :=
    Link.reaches_move (k := ⟨a.tracking w, b, w, [], .tick .a :: ms, n⟩) rfl rfl (stepInput_tick_tracking ha hr hstep w)
  rw [hwires] at hmove
  by_cases hv : w.level l = v
  · have hquiet := stepInput_pin_quiet hb (l := l) (v := v) (.inr (.inl (hlevel.trans hv)))
    rw [← hv, ← hlevel, State.setLevel_level, hlevel, hv, hpin] at hquiet
    cases hquiet
    rw [← hv, Wires.set_level, pinSteps_self] at hmove
    rw [← hv, Wires.set_level]
    exact ⟨_, hmove, n + 3, rfl⟩
  · rw [pinSteps_set hv] at hmove
    have hpin_a := Link.reaches_pin (d := .a)
      (k := ⟨a'.tracking w, b, w.set l v, [(.a, l, v), (.b, l, v)], ms, n + 3⟩) rfl ha'
      (stepInput_pin_deaf ha' hdeaf w v)
      ((State.tracking_drives a' (w.set l v)).trans (State.tracking_drives a' w).symm)
    have hpin_b := Link.reaches_pin (d := .b)
      (k := ⟨a'.tracking (w.set l v), b, w.set l v, [(.b, l, v)], ms, n + 3⟩) rfl hb hpin
      (drives_of_released hob hob')
    exact ⟨_, hmove.trans (hpin_a.trans hpin_b), n + 3, rfl⟩

/-- The same for a tick after which the sender still drives the wires. -/
theorem Link.settled.tick_driving {k : Link} {a a' b b' : State} {w : Wires} {l : Line} {v : Bit} {ms : List Move}
    (h : k.settled a b w (.tick .a :: ms)) (ha : a.initDone = true) (hr : a.role = .sending)
    (hstep : stepInput .tick a = .next a') (ha' : a'.initDone = true) (hm : a'.irqEn = false) (ho : a'.oe = true)
    (hw : a'.outWires = w.set l v) (hb : b.initDone = true) (hlevel : b.level l = w.level l)
    (hpin : stepInput (.pin l v) b = .next b') (hob : b.oe = false) (hob' : b'.oe = false) :
    ∃ k', k.Reaches k' ∧ k'.settled a' b' (w.set l v) ms :=
  h.tick ha hr hstep ha' (.inl hm) (fun n => (wiresAt_sender ha' ho hob n).trans hw) hb hlevel hpin hob hob'

/-- `n` ticks of the sender. -/
abbrev ticks (n : Nat) : List Move := List.replicate n (.tick .a)

theorem ticks_add (m n : Nat) : ticks (m + n) = ticks m ++ ticks n := List.replicate_add m n _

section Exchange

variable {a b : State} (ha : a.initDone = true) (hr : a.role = .sending) (hm : a.irqEn = false) (ho : a.oe = true)
  (hclk : a.clkOut = false) (hb : b.initDone = true) (hq : b.irqEn = true) (hob : b.oe = false)
include ha hr hm ho hclk hb hq hob

/-- Three ticks of the sender put one bit on the wires, and the listener captures it. -/
theorem Link.settled.bit {k : Link} {i : Nat} (hi : i < a.txseq.length) {c : BitSeq}
    (hc : c.length ≤ b.cfg.maxBufferBits) {ms : List Move}
    (h : k.settled (a.atBit i) (b.capturing (a.atBit i).dataOut c) (a.atBit i).outWires (ticks 3 ++ ms)) :
    ∃ k', k.Reaches k' ∧ k'.settled (a.atBit (i + 1))
      (b.capturing (a.atBit (i + 1)).dataOut ((c ++ [a.txseq[i]]).take b.cfg.maxBufferBits))
      (a.atBit (i + 1)).outWires ms := by
  have hlow := State.atBit_clkOut hclk i
  have hdata := tickRun_txData (s := a.atBit i) ha hr (State.atBit_txph_of_lt hi) hi
  have hhigh := tickRun_txClkHigh (s := { a.atBit i with dataOut := a.txseq[i], txph := .clkHigh }) ha hr rfl
  have hend := tickRun_txClkLow
    (s := { a.atBit i with dataOut := a.txseq[i], clkOut := true, txph := .clkLow }) ha hr rfl
  obtain ⟨k₁, hk₁, h₁⟩ := Link.settled.tick_driving (l := .data) (v := a.txseq[i]) h ha hr hdata.stepInput_eq ha hm ho
    rfl hb rfl (stepInput_capturing_data hb _ c _) hob hob
  obtain ⟨k₂, hk₂, h₂⟩ := Link.settled.tick_driving (l := .clk) (v := true) h₁ ha hr hhigh.stepInput_eq ha hm ho
    rfl hb hlow.symm (stepInput_capturing_rise hb hq hc _) hob hob
  obtain ⟨k₃, hk₃, h₃⟩ := Link.settled.tick_driving (l := .clk) (v := false) h₂ ha hr hend.stepInput_eq ha hm ho
    rfl hb rfl (stepInput_sampled_fall hb hq _ _) hob hob
  refine ⟨k₃, hk₁.trans (hk₂.trans hk₃), ?_⟩
  rw [← State.atBit_succ a hi]
  exact h₃

/-- After `3 i` ticks the listener has captured the first `i` bits, up to its capacity. -/
theorem Link.settled.bits {k : Link} {i : Nat} (hi : i ≤ a.txseq.length) {ms : List Move}
    (h : k.settled (a.atBit 0) (b.capturing (a.atBit 0).dataOut []) (a.atBit 0).outWires (ticks (3 * i) ++ ms)) :
    ∃ k', k.Reaches k' ∧ k'.settled (a.atBit i)
      (b.capturing (a.atBit i).dataOut ((a.txseq.take i).take b.cfg.maxBufferBits)) (a.atBit i).outWires ms := by
  induction i generalizing ms with
  | zero => exact ⟨k, .refl k, by simpa using h⟩
  | succ i ih =>
    rw [Nat.mul_succ, ticks_add, List.append_assoc] at h
    obtain ⟨k₁, hk₁, h₁⟩ := ih (by omega) h
    obtain ⟨k₂, hk₂, h₂⟩ := Link.settled.bit ha hr hm ho hclk hb hq hob hi (by simp) h₁
    refine ⟨k₂, hk₁.trans hk₂, ?_⟩
    rwa [take_take_append, List.take_concat_get' _ _ hi] at h₂

end Exchange

/-- The listener `s` after the frame of `p` was delivered, Data at `d`. -/
def State.delivered (s : State) (d : Bit) (p : Payload) : State :=
  (({ s.capturing d (frameBits p) with csIn := false, rxbuf := [] } : State).retain p).emit (.onMessage p)

/-- At the end of a frame it has captured whole, the listener delivers it (R123, R135). -/
theorem stepInput_csFall_delivered {s : State} (hd : s.initDone = true) (hq : s.irqEn = true) (d : Bit) {p : Payload}
    (hf : p.length ≤ maxPayload) (hp : p ≠ sentinel) :
    stepInput (.pin .cs false) (s.capturing d (frameBits p)) = .next (s.delivered d p) :=
  Effect.stepInput_eq (s := s.capturing d (frameBits p)) hd
    (.csFallDeliver (s := s.capturing d (frameBits p)) hq rfl (frameDecode_frameBits hf) rfl hp)

section Reset

variable (ca cb : Config) {p : Payload}

/-- A host send, a poll of the quiet bus and the tick that asserts CS, to the first bit. -/
theorem reaches_atBit_zero (hf : p.length ≤ maxPayload) (ms : List Move) :
    ∃ k, (Link.start ca cb (.send .a p :: (ticks 2 ++ ms))).Reaches k ∧
      k.settled ((State.resetSending ca p).atBit 0) ((State.resetWith cb false false false).capturing false [])
        ((State.resetSending ca p).atBit 0).outWires ms := by
  have hsend := Link.reaches_move_still (k := Link.start ca cb (.send .a p :: (ticks 2 ++ ms))) rfl rfl
    (stepInput_hostSend_reset ca hf) rfl
  have hpoll := Link.reaches_move_still (k := { Link.start ca cb (ticks 2 ++ ms) with
    a := (State.resetWith ca false false false).requested p, draws := 3 }) rfl rfl
    (stepInput_tick_reset_requested ca hf) rfl
  have hsettled : (Link.mk (State.resetSending ca p) (State.resetWith cb false false false) ⟨false, false, false⟩ []
      (ticks 1 ++ ms) 6).settled (State.resetSending ca p) (State.resetWith cb false false false)
      ⟨false, false, false⟩ (.tick .a :: ms) := ⟨_, rfl⟩
  have hassert := tickRun_atBit_zero (s := State.resetSending ca p) rfl rfl rfl rfl (frameBits_ne_nil p)
  have hrise := stepInput_csRise (s := State.resetWith cb false false false) rfl rfl rfl
  obtain ⟨k, hk, hat⟩ := hsettled.tick_driving (l := .cs) (v := true) rfl rfl hassert.stepInput_eq rfl rfl rfl rfl rfl
    rfl hrise rfl rfl
  exact ⟨k, hsend.trans (hpoll.trans hk), hat⟩

/-- After the last bit the listener delivers the payload, and the sender releases the bus and answers its host. -/
theorem Link.settled.finish {k : Link} (hf : p.length ≤ maxPayload) (hp : p ≠ sentinel)
    (h : k.settled ((State.resetSending ca p).atBit (frameBits p).length)
      ((State.resetWith cb false false false).capturing
        ((State.resetSending ca p).atBit (frameBits p).length).dataOut (frameBits p))
      ((State.resetSending ca p).atBit (frameBits p).length).outWires (ticks 2)) :
    ∃ k' d, k.Reaches k' ∧ k'.settled ((State.resetWith ca false false false).hostSent p)
      (((State.resetWith cb false false false).delivered d p).setLevel .data false) ⟨false, false, false⟩ [] := by
  have hlow := State.atBit_clkOut (s := State.resetSending ca p) rfl (frameBits p).length
  have hdeassert := tickRun_txCsDeassert (s := (State.resetSending ca p).atBit (frameBits p).length) rfl rfl
    (State.atBit_txph_length (State.resetSending ca p))
  have hdeliver := stepInput_csFall_delivered (s := State.resetWith cb false false false) rfl rfl
    ((State.resetSending ca p).atBit (frameBits p).length).dataOut hf hp
  obtain ⟨hinit, -, -, hoe, -⟩ := (State.resetWith ca false false false).hostSent_receiving p
  obtain ⟨k₁, hk₁, h₁⟩ := h.tick_driving (l := .cs) (v := false) rfl rfl hdeassert.stepInput_eq rfl rfl rfl rfl rfl rfl
    hdeliver rfl rfl
  have hquiet : (((State.resetSending ca p).atBit (frameBits p).length).outWires.set .cs false).set .data false =
      ⟨false, false, false⟩ :=
    congrArg (Wires.mk false · false) hlow
  obtain ⟨k₂, hk₂, h₂⟩ := h₁.tick (l := .data) (v := false) rfl rfl (stepInput_tick_resetSending_atRelease ca p) hinit
    (.inr rfl) (fun n => (wiresAt_released hoe rfl n).trans hquiet.symm) rfl rfl (stepInput_pin_data rfl false) rfl rfl
  rw [hquiet] at h₂
  exact ⟨k₂, _, hk₁.trans hk₂, h₂⟩

end Reset

/-- Settles O56: the sender's frame bit by bit on the wires, captured whole since it fits, and delivered. -/
theorem cleanExchangeBetweenTwoFramers : Obligations.CleanExchangeBetweenTwoFramers := by
  intro ca cb p hf hp hfit
  obtain ⟨k₁, hk₁, h₁⟩ := reaches_atBit_zero ca cb hf (ticks (3 * (frameBits p).length) ++ ticks 2)
  obtain ⟨k₂, hk₂, h₂⟩ := Link.settled.bits (a := State.resetSending ca p) (b := State.resetWith cb false false false)
    rfl rfl rfl rfl rfl rfl rfl rfl le_rfl h₁
  have hall : ((State.resetSending ca p).txseq.take (State.resetSending ca p).txseq.length).take
      (State.resetWith cb false false false).cfg.maxBufferBits = frameBits p := by
    rw [List.take_length]
    exact take_of_framesFit hfit
  rw [hall] at h₂
  obtain ⟨k₃, d, hk₃, n, rfl⟩ := Link.settled.finish ca cb hf hp h₂
  obtain ⟨steps, hsteps⟩ := hk₁.trans (hk₂.trans hk₃)
  obtain ⟨hev, -, hbuf, -⟩ := (State.resetWith ca false false false).hostSent_frame p
  obtain ⟨-, hrole, -⟩ := (State.resetWith ca false false false).hostSent_receiving p
  rw [← ticks_add, ← ticks_add, length_frameBits,
    show 2 + (3 * (16 + 8 * p.length) + 2) = 1 + (3 * (16 + 8 * p.length) + 3) by omega] at hsteps
  exact ⟨steps, _, hsteps, rfl, rfl, hev, rfl, hrole, rfl, rfl, rfl, hbuf, rfl⟩

end Sys2Proof.Machine
end
